-- ==== Sys2Proof/Word.lean ====
section
/-! DEFINITION. The byte and the 16-bit word of links, flash and epochs (12_formats.md, R196). -/
namespace Sys2Proof

/-- One byte of a frame, of the inertial block or of a sector. -/
abbrev Byte := BitVec 8

/-- A 16-bit word: an epoch (R23), a check word (R162, R201). -/
abbrev Word16 := BitVec 16

end Sys2Proof
end

