-- ==== Sys2Proof/Syntax.lean ====
section
/-! DEFINITION. The names the manual enumerates (12_formats.md R197, R198) and the commands: one constructor of
`Instr` per row of spec/opcode_table.json. The table gives its rows no fields, so the operands are what the rules of
the row need from outside the part. -/
namespace Sys2Proof

/-- The wheels (00_scope.md, Names). -/
inductive Wheel where
  | front | rear
  deriving DecidableEq, Repr

/-- The directions of a grant. -/
inductive Direction where
  | drive | brake
  deriving DecidableEq, Repr

/-- The three link ports. -/
inductive PortName where
  | e | b | c
  deriving DecidableEq, Repr

/-- A holder of grants: Port E or Port B (R76). -/
inductive Holder where
  | e | b
  deriving DecidableEq, Repr

/-- The three slip monitors (R107). -/
inductive MonitorName where
  | rearSpin | rearLock | frontLock
  deriving DecidableEq, Repr

/-- The three ceiling lines (R129). -/
inductive LineName where
  | cld | clf | clr
  deriving DecidableEq, Repr

/-- The four permitted grant keys (R76): (E, REAR, DRIVE), (E, REAR, BRAKE), (B, FRONT, BRAKE), (B, REAR, BRAKE). -/
inductive GrantKey where
  | eRearDrive | eRearBrake | bFrontBrake | bRearBrake
  deriving DecidableEq, Repr

/-- The ride profiles. -/
inductive Profile where
  | touring | rain | spirited
  deriving DecidableEq, Repr

/-- The load classes. -/
inductive LoadClass where
  | solo | pillion | laden | pillionLaden
  deriving DecidableEq, Repr

/-- The split policies. -/
inductive Policy where
  | brakeFirst | proportional | fixedSplit
  deriving DecidableEq, Repr

/-- The calibration sectors (R162). -/
inductive Sector where
  | s0 | s1 | s2 | s3
  deriving DecidableEq, Repr

/-- The message kinds of R198. -/
inductive MessageKind where
  | grantRequest | grantRelease | useReport
  | clampClear | shiftNotice | profileSet
  | calOpen | calErase | calProgram | calRead | calLock | calWipe | calClose
  | checkTest | linkHold | status | reply
  deriving DecidableEq, Repr

/-- The reply codes of R155 and R197. -/
inductive ReplyCode where
  | ok | short | clamped | deferred | notPermitted | badField | notHeld | slipPresent
  | notReady | notStandstill | noService | locked | notErased | verifyFail | lowSupply
  deriving DecidableEq, Repr

/-- What the flash array did with an erase or a program: it obeyed (`none`), or these are the bytes it left (R172, R173:
'holds whatever the array left'); of bytes programmed, only the bits that were set before can be left set (R175). -/
abbrev ArrayLeft := Option (List Byte)

/-- The commands: one constructor per row of spec/opcode_table.json, in the table's order. -/
inductive Instr where
  | cycleTimerExpiry
  | transactionCompletion (block : Vector Byte 16)
  | estimatePublication
  | coastCountExpiry
  | settlingGoodCountReached
  | delayCountExpiry (m : MonitorName)
  | softHoldExpiry (m : MonitorName)
  | blankingExpiry (m : MonitorName)
  | hardAutoEnd (m : MonitorName)
  | budgetPublication
  | greServiceTake
  | reevaluationCompletion
  | grantCountdownExpiry (k : GrantKey)
  | retainedRewriteCompletion
  | linePeriodStart (l : LineName)
  | linePulseEnd (l : LineName)
  | toothCapture (w : Wheel) (edge : Nat)
  | wheelRevalidated (w : Wheel) (edge : Nat)
  | silenceExpiry (w : Wheel)
  | lockWindowExpiry (m : MonitorName)
  | receiveReadyExpiry (p : PortName)
  | frameReceived (p : PortName)
  | silenceCountExpiry (p : PortName)
  | grantRequest
  | grantRelease
  | useReport
  | clampClear (p : PortName)
  | shiftNotice
  | profileSet
  | checkTest (p : PortName)
  | linkHold (p : PortName)
  | calOpen
  | calClose
  | calRead
  | calErase
  | calProgram
  | calLock
  | calWipe
  | calEraseCompletion (left : ArrayLeft)
  | calProgramCompletion (left : ArrayLeft)
  | calLockCompletion (left : ArrayLeft)
  | wipeSectorEraseCompletion (left : ArrayLeft)
  | calWipeCompletion (left : ArrayLeft)
  | transmitGapExpiry (p : PortName)
  | frameSent (p : PortName)
  | supplyLossTrip (millivolts : Nat)
  | supplyLossClear (millivolts : Nat)
  | lowSupplySet (millivolts : Nat)
  | lowSupplyClear (millivolts : Nat)
  | rstNAssert
  | rstNRelease
  | ignitionOff
  | ignitionOn
  | retainedDomainPowerUp
  | loadCompletion
  | sensorWaitExpiry
  | svcAsserted
  | svcReleased
  | byteReceived (p : PortName) (byte : Byte) (stopFault : Bool)
  | supplySample (millivolts : Nat)
  | retainedMsTick (ignHigh : Bool)
  | svcSample (svcHigh : Bool)
  | mainDomainPowerUp
  deriving DecidableEq, Repr

end Sys2Proof
end

