-- ==== Sys2Proof/Machine/Records.lean ====
section
/-! DEFINITION. The records the blocks hold (00_scope.md, Block overview), as plain data. Each field's docstring names
the rule that gives it. -/
namespace Sys2Proof.Machine

/-! ## One value per wheel, port, monitor, line, key, profile, class -/

/-- One value for each wheel. -/
structure PerWheel (α : Type) where
  front : α
  rear : α
  deriving DecidableEq, Repr

/-- One value for each port. -/
structure PerPort (α : Type) where
  e : α
  b : α
  c : α
  deriving DecidableEq, Repr

/-- One value for each slip monitor. -/
structure PerMonitor (α : Type) where
  rearSpin : α
  rearLock : α
  frontLock : α
  deriving DecidableEq, Repr

/-- One value for each ceiling line. -/
structure PerLine (α : Type) where
  cld : α
  clf : α
  clr : α
  deriving DecidableEq, Repr

/-- One value for each permitted grant key, in the order of R76. -/
structure PerKey (α : Type) where
  eRearDrive : α
  eRearBrake : α
  bFrontBrake : α
  bRearBrake : α
  deriving DecidableEq, Repr

/-- One value for each ride profile. -/
structure PerProfile (α : Type) where
  touring : α
  rain : α
  spirited : α
  deriving DecidableEq, Repr

/-- One value for each load class. -/
structure PerClass (α : Type) where
  solo : α
  pillion : α
  laden : α
  pillionLaden : α
  deriving DecidableEq, Repr

/-! ## Sensor interface (01_sensor_inputs.md) -/

/-- VALID or INVALID (R11 to R13). -/
inductive WheelState where
  | valid | invalid
  deriving DecidableEq, Repr

/-- The six channels, the counter and the status byte of an inertial sample. -/
structure Inertial where
  roll : Int
  pitch : Int
  yaw : Int
  ax : Int
  ay : Int
  az : Int
  counter : Byte
  status : Byte
  deriving DecidableEq, Repr

/-- The sample record handed to the LEU (R5 to R7). -/
structure SampleRecord where
  inertial : Inertial
  imuValid : Bool
  speed : PerWheel Nat
  valid : PerWheel Bool
  vRef : Nat
  vRefValid : Bool
  deriving DecidableEq, Repr

/-- One wheel input (R8 to R13). `silence` is the running silence timer in microseconds. -/
structure WheelInput where
  state : WheelState
  plausible : Nat
  lastEdge : Option Nat
  period : Option Nat
  speed : Nat
  silence : Option Nat
  deriving DecidableEq, Repr

/-- The sensor interface's state. `transaction`: an inertial transaction is in flight, IMU_CS_N asserted (R3). `mosi`: the
bytes that the transaction in flight clocks out on IMU_MOSI, none while none is (R201). -/
structure Sif where
  sample : SampleRecord
  lastValid : Option Inertial
  invalidRun : Nat
  wheels : PerWheel WheelInput
  vRef : Nat
  vRefValid : Bool
  transaction : Bool
  mosi : List Byte
  deriving DecidableEq, Repr

/-! ## Lean estimation unit (02) -/

/-- The confidence states (R31 to R37). -/
inductive Confidence where
  | unset | settling | tracking | drifting | coasting | lost
  deriving DecidableEq, Repr

/-- The kinds of reference (R26). -/
inductive RefKind where
  | none | yaw | gravity
  deriving DecidableEq, Repr

/-- The published estimate record (02, The published estimate record). -/
structure EstimateRecord where
  epoch : Word16
  confidence : Confidence
  lean : Int
  acc : Int
  u : Nat
  refKind : RefKind
  refLean : Int
  aF : Int
  vRef : Nat
  vRefValid : Bool
  leanSat : Bool
  deriving DecidableEq, Repr

/-- The latest estimate record together with the sample record it was computed from (R21). -/
structure Publication where
  estimate : EstimateRecord
  sample : SampleRecord
  deriving DecidableEq, Repr

/-- The LEU's computation: none in flight, an ordinary one, or one whose invalid sample was completed in SENSOR_WAIT
and is published under R39. -/
inductive LeuWork where
  | idle | ordinary | sensorWait
  deriving DecidableEq, Repr

/-- The lean estimation unit's state. `cycleTimer` is none while the timer does not run (R20). -/
structure Leu where
  cycleTimer : Option Nat
  epoch : Word16
  acc : Int
  u : Nat
  conf : Confidence
  good : Nat
  coast : Nat
  aF : Int
  published : Option Publication
  work : LeuWork
  deriving DecidableEq, Repr

/-! ## Grip budget unit (03) -/

/-- NEXT or DEFERRED (R49). -/
inductive PendingKind where
  | next | deferred
  deriving DecidableEq, Repr

/-- A profile accepted but not yet in force. -/
structure PendingProfile where
  profile : Profile
  kind : PendingKind
  deriving DecidableEq, Repr

/-- The ride settings record. -/
structure RideSettings where
  profile : Profile
  pending : Option PendingProfile
  cls : LoadClass
  policy : Policy
  deriving DecidableEq, Repr

/-- The latest wheel loads (R52 to R54). -/
structure WheelLoads where
  frontPm : Nat
  total : Nat
  load : PerWheel Nat
  deriving DecidableEq, Repr

/-- One wheel's budget record (R61). -/
structure BudgetRecord where
  wheel : Wheel
  load : Nat
  lat : Nat
  mu : Nat
  long : Nat
  b : Nat
  budget : Nat
  epoch : Word16
  floor : Bool
  deriving DecidableEq, Repr

/-- A budget publication (R61). `estimate` is the estimate record it was computed from, which R69 and R154 read with
it. -/
structure BudgetPublication where
  record : PerWheel BudgetRecord
  profile : Profile
  estimate : EstimateRecord
  deriving DecidableEq, Repr

/-- The grip budget unit's state. `working`: a budget computation is in flight. `read`: the ride settings it has read,
while a PROFILE_SET has been served after its read (R51); none else, when it uses the settings as they stand. -/
structure Gbu where
  settings : RideSettings
  loads : Option WheelLoads
  publication : Option BudgetPublication
  working : Bool
  read : Option RideSettings
  deriving DecidableEq, Repr

/-! ## Friction learning unit (04) -/

/-- A slip event record. -/
structure SlipEvent where
  muObs : Nat
  age : Nat
  deriving DecidableEq, Repr

/-- A trigger taken but not yet completed (R68). -/
structure PendingTrigger where
  monitor : MonitorName
  force : Nat
  target : Word16
  deriving DecidableEq, Repr

/-- The friction learning unit's state. -/
structure Flu where
  events : List SlipEvent
  triggers : List PendingTrigger
  reports : PerKey Nat
  learned : Nat
  deriving DecidableEq, Repr

/-! ## Grant engine (05) -/

/-- FULL, SHORT or CLAMPED (R77). -/
inductive GrantState where
  | full | short | clamped
  deriving DecidableEq, Repr

/-- Why a grant is UNCONFIRMED. -/
inductive DoubtCause where
  | linkLost | carried
  deriving DecidableEq, Repr

/-- CONFIRMED, or UNCONFIRMED with its countdown, cause and frozen ceiling (R100, R101, R104). -/
inductive Confirmation where
  | confirmed
  | unconfirmed (countdown : Nat) (cause : DoubtCause) (frozen : Nat)
  deriving DecidableEq, Repr

/-- A grant record; its key is its place in the table. -/
structure Grant where
  requested : Nat
  granted : Nat
  rampBase : Nat
  applied : Option Nat
  state : GrantState
  recovering : Bool
  overuse : Bool
  confirmation : Confirmation
  deriving DecidableEq, Repr

/-- The grant table: at most one grant for each permitted key (R76). -/
abbrev GrantTable := PerKey (Option Grant)

/-- The budget in force (R79). -/
structure BudgetInForce where
  force : PerWheel Nat
  epoch : Word16
  mu : Nat
  deriving DecidableEq, Repr

/-- FREE, or BUSY with the item in service (R81). -/
inductive Engine where
  | free
  | reevaluation
  | request (h : Holder)
  deriving DecidableEq, Repr

/-- The grant engine's state. `waiting` is the pending re-evaluation (R82). `reported` is the model's own: the estimate
record of the budget-in-force epoch, which STATUS carries (R154). -/
structure Gre where
  grants : GrantTable
  budget : BudgetInForce
  policy : Policy
  engine : Engine
  waiting : Option BudgetPublication
  pointer : Holder
  reported : Option EstimateRecord
  deriving DecidableEq, Repr

/-! ## Slip monitors (06) -/

/-- The monitor states. -/
inductive MonitorState where
  | idle | armed | delaying | soft | hard | blanking
  deriving DecidableEq, Repr

/-- The trigger kinds. -/
inductive TriggerKind where
  | none | syncSoft | syncHard | immediate
  deriving DecidableEq, Repr

/-- A slip monitor's record (06, The monitor record). `cap` holds the cap of each key, absent for every key outside
SOFT. -/
structure Monitor where
  state : MonitorState
  count : Nat
  grace : Bool
  cap : PerKey (Option Nat)
  within : Nat
  lastSlip : Option Int
  trigger : TriggerKind
  wheelSeen : WheelState
  bound : Option Nat
  window : Option Nat
  deriving DecidableEq, Repr

/-! ## Ceiling lines (07) -/

/-- A ceiling line. `timer` is none while the period timer is stopped (R137); `high` is the output level. -/
structure CeilingLine where
  current : Nat
  preset : Nat
  carried : Option Nat
  timer : Option Nat
  fullScale : Nat
  high : Bool
  deriving DecidableEq, Repr

/-! ## Link ports (08) -/

/-- DOWN, UP or LOST (R149). -/
inductive PortState where
  | down | up | lost
  deriving DecidableEq, Repr

/-- The receive assembly's states (R142). -/
inductive ReceiveState where
  | hunting | ready | assembling
  deriving DecidableEq, Repr

/-- The receive assembly: the bytes kept (up to 31), the bytes counted, whether a stop fault was noted, and the
microseconds since the end of the last byte. -/
structure Receiver where
  state : ReceiveState
  bytes : List Byte
  count : Nat
  fault : Bool
  idle : Nat
  deriving DecidableEq, Repr

/-- A request in a port's queue: its kind and its payload bytes (R145, R156). -/
structure Request where
  kind : MessageKind
  payload : List Byte
  deriving DecidableEq, Repr

/-- A reply to a request (R155, R199). -/
structure Reply where
  kind : MessageKind
  code : ReplyCode
  rest : List Byte
  deriving DecidableEq, Repr

/-- A reply that waits in a port's reply queue. `away`: it was handed over while the port was not UP (R195). -/
structure WaitingReply where
  reply : Reply
  away : Bool
  deriving DecidableEq, Repr

/-- The two sorts of frame a transmitter sends (R151). -/
inductive FrameSort where
  | reply | status
  deriving DecidableEq, Repr

/-- The transmitter: free, sending one frame, or in the idle gap after one (R151). -/
inductive Transmitter where
  | free
  | sending (sort : FrameSort) (bytes : List Byte)
  | gap
  deriving DecidableEq, Repr

/-- A port. `slot` holds the payload of the STATUS frame that waits, if one does (R153). -/
structure Port where
  state : PortState
  receiver : Receiver
  silence : Nat
  queue : List Request
  outstanding : Bool
  replies : List WaitingReply
  slot : Option (List Byte)
  transmitter : Transmitter
  lastSent : FrameSort
  badFrames : Nat
  discards : Nat
  checkTest : Nat
  deriving DecidableEq, Repr

/-! ## Calibration store (09, 12) -/

/-- Flash memory: (address, byte) pairs in canonical form; an unlisted byte is erased (R162). -/
abbrev Memory := List Host.Cell

/-- The class parameters of S0. -/
structure ClassParams where
  mass : Nat
  frontPm : Nat
  hwb : Nat
  deriving DecidableEq, Repr

/-- The parameters of S0, as stored. -/
structure VehicleSector where
  circumference : PerWheel Nat
  teeth : PerWheel Nat
  classes : PerClass ClassParams
  mountRoll : Int
  fullScale : PerLine Nat
  deriving DecidableEq, Repr

/-- The parameters of one profile block of S1, as stored. -/
structure ProfileParams where
  muNom : Nat
  reserve : Nat
  softSpin : Int
  hardSpin : Int
  softLock : Int
  hardLock : Int
  delay : Nat
  softHold : Nat
  softLevel : Nat
  ramp : Nat
  blank : Nat
  deriving DecidableEq, Repr

/-- The parameters of S2, as stored; the first four are codes. -/
structure ArbitrationSector where
  profile : Nat
  cls : Nat
  policy : Nat
  warningLevel : Nat
  drivePm : Nat
  floorPm : Nat
  recoverCycles : Nat
  hardAuto : Nat
  shiftBlank : Nat
  deriving DecidableEq, Repr

/-- The bytes of the parameter sectors that hold no parameter, in order (R202): bytes 38 to 253 of S0; bytes 19 to 31,
51 to 63 and 83 to 253 of S1; bytes 13 to 253 of S2. -/
structure SpareBytes where
  s0 : List Byte
  s1 : List Byte
  s2 : List Byte
  deriving DecidableEq, Repr

/-- The working copy (R163): the parameters of bytes 0 to 253 of each sector, and the bytes among them that hold no
parameter. -/
structure WorkingCopy where
  s0 : VehicleSector
  s1 : PerProfile ProfileParams
  s2 : ArbitrationSector
  spare : SpareBytes
  deriving DecidableEq, Repr

/-- The DEFAULTED mask (R163). -/
structure DefaultedMask where
  s0 : Bool
  s1 : Bool
  s2 : Bool
  deriving DecidableEq, Repr

/-- LOCKED or UNLOCKED (R165). -/
inductive LockState where
  | locked | unlocked
  deriving DecidableEq, Repr

/-- CLOSED or OPEN (R168, R169). -/
inductive Session where
  | closed | opened
  deriving DecidableEq, Repr

/-- The operations that occupy the flash array (R170). A wipe has erased `erased` sectors so far, in the order S0 to
S3, and `clean` says that each read back as all 0xFF (R176). -/
inductive FlashOperation where
  | erase (sector : Sector)
  | program (sector : Sector) (offset : Nat) (bytes : List Byte)
  | lock
  | wipe (erased : Nat) (clean : Bool)
  deriving DecidableEq, Repr

/-- The operation in flight with its time remaining in microseconds. -/
structure OperationInFlight where
  operation : FlashOperation
  remaining : Nat
  deriving DecidableEq, Repr

/-- The calibration store's state. -/
structure Cst where
  flash : Memory
  working : WorkingCopy
  defaulted : DefaultedMask
  lock : LockState
  serviceAsserted : Bool
  serviceCount : Nat
  session : Session
  operation : Option OperationInFlight
  last : Option (MessageKind × ReplyCode)
  deriving DecidableEq, Repr

/-! ## Supply supervisor (10) -/

/-- The start states (R184). -/
inductive StartState where
  | off | reset | loading | sensorWait | running
  deriving DecidableEq, Repr

/-- COLD or WARM. -/
inductive StartKind where
  | cold | warm
  deriving DecidableEq, Repr

/-- The start causes (R187). -/
inductive StartCause where
  | powerOn | ignition | supplyLoss | resetLine
  deriving DecidableEq, Repr

/-- The entry causes (R184, R186). -/
inductive EntryCause where
  | ignition | supplyLoss | resetLine
  deriving DecidableEq, Repr

/-- The supply warning levels: 8.5, 9.0, 9.5 and 10.0 V (R181, R197). -/
inductive WarningLevel where
  | v85 | v90 | v95 | v100
  deriving DecidableEq, Repr

/-- A grant as the retained record keeps it (R191). -/
structure RetainedGrant where
  requested : Nat
  granted : Nat
  applied : Option Nat
  state : GrantState
  recovering : Bool
  overuse : Bool
  deriving DecidableEq, Repr

/-- A monitor as the retained record keeps it (R191). -/
structure RetainedMonitor where
  state : MonitorState
  trigger : TriggerKind
  deriving DecidableEq, Repr

/-- The ride settings as the retained record keeps them: the codes of R197, any of which a restored record may hold
outside its enumeration (R63). -/
structure RetainedSettings where
  profile : Nat
  pending : Option (Nat × PendingKind)
  cls : Nat
  policy : Nat
  deriving DecidableEq, Repr

/-- The contents of the retained record (R191). -/
structure RecordContents where
  epoch : Word16
  acc : Int
  u : Nat
  events : List SlipEvent
  settings : RetainedSettings
  budget : BudgetInForce
  grants : PerKey (Option RetainedGrant)
  monitors : PerMonitor RetainedMonitor
  deriving DecidableEq, Repr

/-- The retained record: its contents (none when lost or cut short), valid mark and check word (R191). -/
structure RetainedRecord where
  contents : Option RecordContents
  valid : Bool
  check : Word16
  deriving DecidableEq, Repr

/-- The supply supervisor's state, both domains. `rstLow` is the level of the RST_N input (R182); `sensorWait` is the
SENSOR_WAIT limit's remaining microseconds (R189); `rewrite` is the copy a running rewrite writes (R191). -/
structure Sup where
  start : StartState
  tripped : Bool
  tripCount : Nat
  low : Bool
  lowCount : Nat
  level : WarningLevel
  kind : StartKind
  cause : StartCause
  sensorWait : Option Nat
  rstLow : Bool
  ignHigh : Bool
  ignCount : Nat
  entry : EntryCause
  retentionLost : Bool
  outage : Nat
  record : RetainedRecord
  rewrite : Option RecordContents
  deriving DecidableEq, Repr

end Sys2Proof.Machine
end

