-- ==== Sys2Proof/Config.lean ====
section
/-! DEFINITION. The free values: what the manual leaves to the implementation. Nothing can be proved of them. -/
namespace Sys2Proof

/-- FREE VALUE (log 18). The byte at a flash address that a cut-short operation was acting on, for the n-th such
operation: R177 says of it only that the sector fails its check, R175 that programming sets no bit. -/
opaque Config.freeByte : Nat → Nat → Byte

/-- FREE VALUE (log 15). The bytes of the retained record 'as written': R191 gives the rule of its check word, no
chapter its layout. -/
opaque Config.recordBytes : Machine.RecordContents → List Byte

/-- FREE VALUE (log 10). Whether the budget computation in flight has read the ride settings by the time a PROFILE_SET is
served, for the n-th question of that order: R51 leaves it open. -/
opaque Config.readBefore : Nat → Bool

end Sys2Proof
end

