-- ==== Sys2Proof/Machine/StartValues.lean ====
section
/-! DEFINITION. The values the blocks take at a cold release ("After each start" of each chapter) and the built-in
defaults of R164. `State.reset` is made of them, and so is the release itself. -/
namespace Sys2Proof.Machine

/-- R164. -/
def builtInVehicle : VehicleSector where
  circumference := ⟨2010, 2090⟩
  teeth := ⟨48, 48⟩
  classes := ⟨⟨500, 470, 420⟩, ⟨580, 430, 470⟩, ⟨560, 450, 450⟩, ⟨620, 420, 490⟩⟩
  mountRoll := 0
  fullScale := ⟨6000, 9000, 4000⟩

/-- R164. -/
def builtInProfiles : PerProfile ProfileParams where
  touring := ⟨900, 150, 150, 300, -150, -300, 2, 50, 600, 100, 25⟩
  rain := ⟨700, 200, 100, 200, -100, -200, 1, 75, 500, 60, 40⟩
  spirited := ⟨1000, 100, 200, 400, -200, -400, 3, 40, 700, 150, 20⟩

/-- R164: TOURING, SOLO, BRAKE_FIRST, 9.0 V, and the S2 figures. -/
def builtInArbitration : ArbitrationSector where
  profile := 0
  cls := 0
  policy := 0
  warningLevel := 1
  drivePm := 400
  floorPm := 80
  recoverCycles := 250
  hardAuto := 250
  shiftBlank := 50

/-- R164; the built-in defaults are parameters, and give no byte that holds none (log 28). -/
def builtInCopy : WorkingCopy := ⟨builtInVehicle, builtInProfiles, builtInArbitration, ⟨[], [], []⟩⟩

/-- R6: the inertial fields while no valid sample has arrived. -/
def Inertial.zero : Inertial := ⟨0, 0, 0, 0, 0, 0, 0, 0⟩

/-- R17. That the plausible-tooth count of a VALID wheel holds 0 is the model's choice: R13 keeps it only while INVALID
(log 42). -/
def WheelInput.start : WheelInput := ⟨.valid, 0, none, none, 0, none⟩

/-- R17. -/
def Sif.start : Sif where
  sample := ⟨.zero, false, ⟨0, 0⟩, ⟨true, true⟩, 0, true⟩
  lastValid := none
  invalidRun := 0
  wheels := ⟨.start, .start⟩
  vRef := 0
  vRefValid := true
  transaction := false
  mosi := []

/-- R40. -/
def Leu.cold : Leu where
  cycleTimer := none
  epoch := 0
  acc := 0
  u := 6000
  conf := .unset
  good := 0
  coast := 0
  aF := 0
  published := none
  work := .idle

/-- R62; the values the load completion sets are built-in ones until then (log 6). -/
def Gbu.cold : Gbu where
  settings := ⟨.touring, none, .solo, .brakeFirst⟩
  loads := none
  publication := none
  working := false
  read := none

/-- R73; the learned friction is the built-in default profile's nominal until the load completes (log 6). -/
def Flu.cold : Flu := ⟨[], [], ⟨0, 0, 0, 0⟩, 900⟩

/-- R103; the policy in use is the built-in default until the load completes (log 6). -/
def Gre.cold : Gre where
  grants := ⟨none, none, none, none⟩
  budget := ⟨⟨0, 0⟩, 0, 0⟩
  policy := .brakeFirst
  engine := .free
  waiting := none
  pointer := .e
  reported := none

/-- R125. -/
def Monitor.cold : Monitor where
  state := .idle
  count := 0
  grace := false
  cap := ⟨none, none, none, none⟩
  within := 0
  lastSlip := none
  trigger := .none
  wheelSeen := .valid
  bound := none
  window := none

/-- R138. -/
def CeilingLine.cold (fullScale : Nat) : CeilingLine := ⟨50, 50, none, some 0, fullScale, true⟩

/-- R159, R160. -/
def Port.start : Port where
  state := .down
  receiver := ⟨.hunting, [], 0, false, 0⟩
  silence := 0
  queue := []
  outstanding := false
  replies := []
  slot := none
  transmitter := .free
  lastSent := .reply
  badFrames := 0
  discards := 0
  checkTest := 0

/-- The store of a part whose sectors have never been programmed, at its first release (R178; log 6, 30). -/
def Cst.fresh : Cst where
  flash := []
  working := builtInCopy
  defaulted := ⟨false, false, false⟩
  lock := .locked
  serviceAsserted := false
  serviceCount := 0
  session := .closed
  operation := none
  last := none

/-- The supervisor at the first release: COLD with cause POWER_ON (R181, R184 to R187). -/
def Sup.fresh : Sup where
  start := .loading
  tripped := false
  tripCount := 0
  low := false
  lowCount := 0
  level := .v90
  kind := .cold
  cause := .powerOn
  sensorWait := none
  rstLow := false
  ignHigh := true
  ignCount := 0
  entry := .ignition
  retentionLost := false
  outage := 255
  record := ⟨none, false, 0⟩
  rewrite := none

end Sys2Proof.Machine
end

