-- ==== Sys2Proof/Machine/State.lean ====
section
/-! DEFINITION. The state of the part, its fault and refusal types, and `State.reset`. -/
namespace Sys2Proof.Machine

/-- The whole part. `freeCount` is the model's own: the number of free values used so far. `pending` is the queue of
commands, first in, first out. -/
structure State where
  sif : Sif
  leu : Leu
  gbu : Gbu
  flu : Flu
  gre : Gre
  slm : PerMonitor Monitor
  lines : PerLine CeilingLine
  ports : PerPort Port
  cst : Cst
  sup : Sup
  freeCount : Nat
  pending : List Instr
  deriving DecidableEq, Repr

/-- No event stops the part for good (INVENTORY.md, Faults), so no meaning raises a fault. -/
inductive Fault where
  deriving DecidableEq, Repr

/-- Why the model would give no next state. -/
inductive Refusal where
  /-- Raised by an arm of `exec` that has no meaning yet; no arm is so. Safe: the model claims nothing there. -/
  | notModelled (mnemonic : String)
  deriving DecidableEq, Repr

/-- The part right after reset: the first release from reset of a part that has just received power, a COLD start
with cause POWER_ON, in LOADING (R138, R159, R184, R186, R187, and the cold values of each block; log 5). -/
def State.reset : State where
  sif := .start
  leu := .cold
  gbu := .cold
  flu := .cold
  gre := .cold
  slm := ⟨.cold, .cold, .cold⟩
  lines := ⟨.cold 6000, .cold 9000, .cold 4000⟩
  ports := ⟨.start, .start, .start⟩
  cst := .fresh
  sup := .fresh
  freeCount := 0
  pending := []

end Sys2Proof.Machine
end

