-- ==== Sys2Proof/Machine/Access.lean ====
section
/-! DEFINITION. Reading and replacing one part of the state: the value of one wheel, port, monitor, line or key, and
one block of the whole. -/
namespace Sys2Proof.Machine

/-- The value of one wheel. -/
def PerWheel.get {α : Type} (t : PerWheel α) : Wheel → α
  | .front => t.front
  | .rear => t.rear

/-- The value of one wheel replaced. -/
def PerWheel.set {α : Type} (t : PerWheel α) (x : Wheel) (v : α) : PerWheel α :=
  match x with
  | .front => { t with front := v }
  | .rear => { t with rear := v }

/-- A function applied at every wheel. -/
def PerWheel.map {α β : Type} (f : α → β) (t : PerWheel α) : PerWheel β := ⟨f t.front, f t.rear⟩

/-- The value of one port. -/
def PerPort.get {α : Type} (t : PerPort α) : PortName → α
  | .e => t.e
  | .b => t.b
  | .c => t.c

/-- The value of one port replaced. -/
def PerPort.set {α : Type} (t : PerPort α) (x : PortName) (v : α) : PerPort α :=
  match x with
  | .e => { t with e := v }
  | .b => { t with b := v }
  | .c => { t with c := v }

/-- A function applied at every port. -/
def PerPort.map {α β : Type} (f : α → β) (t : PerPort α) : PerPort β := ⟨f t.e, f t.b, f t.c⟩

/-- The value of one monitor. -/
def PerMonitor.get {α : Type} (t : PerMonitor α) : MonitorName → α
  | .rearSpin => t.rearSpin
  | .rearLock => t.rearLock
  | .frontLock => t.frontLock

/-- The value of one monitor replaced. -/
def PerMonitor.set {α : Type} (t : PerMonitor α) (x : MonitorName) (v : α) : PerMonitor α :=
  match x with
  | .rearSpin => { t with rearSpin := v }
  | .rearLock => { t with rearLock := v }
  | .frontLock => { t with frontLock := v }

/-- A function applied at every monitor. -/
def PerMonitor.map {α β : Type} (f : α → β) (t : PerMonitor α) : PerMonitor β := ⟨f t.rearSpin, f t.rearLock, f t.frontLock⟩

/-- The value of one line. -/
def PerLine.get {α : Type} (t : PerLine α) : LineName → α
  | .cld => t.cld
  | .clf => t.clf
  | .clr => t.clr

/-- The value of one line replaced. -/
def PerLine.set {α : Type} (t : PerLine α) (x : LineName) (v : α) : PerLine α :=
  match x with
  | .cld => { t with cld := v }
  | .clf => { t with clf := v }
  | .clr => { t with clr := v }

/-- A function applied at every line. -/
def PerLine.map {α β : Type} (f : α → β) (t : PerLine α) : PerLine β := ⟨f t.cld, f t.clf, f t.clr⟩

/-- The value of one key. -/
def PerKey.get {α : Type} (t : PerKey α) : GrantKey → α
  | .eRearDrive => t.eRearDrive
  | .eRearBrake => t.eRearBrake
  | .bFrontBrake => t.bFrontBrake
  | .bRearBrake => t.bRearBrake

/-- The value of one key replaced. -/
def PerKey.set {α : Type} (t : PerKey α) (x : GrantKey) (v : α) : PerKey α :=
  match x with
  | .eRearDrive => { t with eRearDrive := v }
  | .eRearBrake => { t with eRearBrake := v }
  | .bFrontBrake => { t with bFrontBrake := v }
  | .bRearBrake => { t with bRearBrake := v }

/-- The value of one profile. -/
def PerProfile.get {α : Type} (t : PerProfile α) : Profile → α
  | .touring => t.touring
  | .rain => t.rain
  | .spirited => t.spirited

/-- The value of one class. -/
def PerClass.get {α : Type} (t : PerClass α) : LoadClass → α
  | .solo => t.solo
  | .pillion => t.pillion
  | .laden => t.laden
  | .pillionLaden => t.pillionLaden

/-! ## One block of the state replaced -/

/-- The state with `sif` replaced. -/
def State.setSif (s : State) (x : Sif) : State := { s with sif := x }

/-- The state with `leu` replaced. -/
def State.setLeu (s : State) (x : Leu) : State := { s with leu := x }

/-- The state with `gbu` replaced. -/
def State.setGbu (s : State) (x : Gbu) : State := { s with gbu := x }

/-- The state with `flu` replaced. -/
def State.setFlu (s : State) (x : Flu) : State := { s with flu := x }

/-- The state with `gre` replaced. -/
def State.setGre (s : State) (x : Gre) : State := { s with gre := x }

/-- The state with `slm` replaced. -/
def State.setSlm (s : State) (x : PerMonitor Monitor) : State := { s with slm := x }

/-- The state with `lines` replaced. -/
def State.setLines (s : State) (x : PerLine CeilingLine) : State := { s with lines := x }

/-- The state with `ports` replaced. -/
def State.setPorts (s : State) (x : PerPort Port) : State := { s with ports := x }

/-- The state with `cst` replaced. -/
def State.setCst (s : State) (x : Cst) : State := { s with cst := x }

/-- The state with `sup` replaced. -/
def State.setSup (s : State) (x : Sup) : State := { s with sup := x }

/-- The state with `freeCount` replaced. -/
def State.setFreeCount (s : State) (x : Nat) : State := { s with freeCount := x }

/-- The state with `pending` replaced. -/
def State.setPending (s : State) (x : List Instr) : State := { s with pending := x }

/-! ## One member of a block -/

/-- One port. -/
def State.port (s : State) (p : PortName) : Port := s.ports.get p

/-- One port replaced. -/
def State.setPort (s : State) (p : PortName) (x : Port) : State := s.setPorts (s.ports.set p x)

/-- One slip monitor's record. -/
def State.monitor (s : State) (m : MonitorName) : Monitor := s.slm.get m

/-- One slip monitor's record replaced. -/
def State.setMonitor (s : State) (m : MonitorName) (x : Monitor) : State := s.setSlm (s.slm.set m x)

/-- One ceiling line. -/
def State.line (s : State) (l : LineName) : CeilingLine := s.lines.get l

/-- One ceiling line replaced. -/
def State.setLine (s : State) (l : LineName) (x : CeilingLine) : State := s.setLines (s.lines.set l x)

/-- One wheel input. -/
def State.wheel (s : State) (w : Wheel) : WheelInput := s.sif.wheels.get w

/-- One wheel input replaced. -/
def State.setWheel (s : State) (w : Wheel) (x : WheelInput) : State :=
  s.setSif { s.sif with wheels := s.sif.wheels.set w x }

/-- The grant of a key, if there is one. -/
def State.grant (s : State) (k : GrantKey) : Option Grant := s.gre.grants.get k

end Sys2Proof.Machine

namespace Sys2Proof

/-! ## What a key, a holder and a monitor stand for (R76, R107, R129) -/

/-- The wheel of a key. -/
def GrantKey.wheel : GrantKey → Wheel
  | .bFrontBrake => .front
  | .eRearDrive | .eRearBrake | .bRearBrake => .rear

/-- The direction of a key. -/
def GrantKey.direction : GrantKey → Direction
  | .eRearDrive => .drive
  | .eRearBrake | .bFrontBrake | .bRearBrake => .brake

/-- The port a key is held through. -/
def GrantKey.holder : GrantKey → Holder
  | .eRearDrive | .eRearBrake => .e
  | .bFrontBrake | .bRearBrake => .b

/-- The monitor that concerns a key. -/
def GrantKey.monitor : GrantKey → MonitorName
  | .eRearDrive => .rearSpin
  | .eRearBrake | .bRearBrake => .rearLock
  | .bFrontBrake => .frontLock

/-- The ceiling line that carries a key; engine drag has none. -/
def GrantKey.line : GrantKey → Option LineName
  | .eRearDrive => some .cld
  | .eRearBrake => none
  | .bFrontBrake => some .clf
  | .bRearBrake => some .clr

/-- The code of a key (R197). -/
def GrantKey.code : GrantKey → Nat
  | .eRearDrive => 0
  | .eRearBrake => 1
  | .bFrontBrake => 2
  | .bRearBrake => 3

/-- The keys in the table's order (R76). -/
def allKeys : List GrantKey := [.eRearDrive, .eRearBrake, .bFrontBrake, .bRearBrake]

/-- The permitted key a port names with a wheel and a direction, if it is one (R76). -/
def Holder.key (h : Holder) (w : Wheel) (d : Direction) : Option GrantKey :=
  match h, w, d with
  | .e, .rear, .drive => some .eRearDrive
  | .e, .rear, .brake => some .eRearBrake
  | .b, .front, .brake => some .bFrontBrake
  | .b, .rear, .brake => some .bRearBrake
  | .e, .front, _ => none
  | .b, _, .drive => none

/-- The port of a holder. -/
def Holder.port : Holder → PortName
  | .e => .e
  | .b => .b

/-- The other of the two holders (R80). -/
def Holder.other : Holder → Holder
  | .e => .b
  | .b => .e

/-- The keys held through a port; Port C holds none. -/
def PortName.keys : PortName → List GrantKey
  | .e => [.eRearDrive, .eRearBrake]
  | .b => [.bFrontBrake, .bRearBrake]
  | .c => []

/-- The keys a STATUS frame to a port lists (R106). -/
def PortName.listed : PortName → List GrantKey
  | .e => [.eRearDrive, .eRearBrake]
  | .b => [.bFrontBrake, .bRearBrake]
  | .c => allKeys

/-- The keys a monitor affects (R107). -/
def MonitorName.keys : MonitorName → List GrantKey
  | .rearSpin => [.eRearDrive]
  | .rearLock => [.eRearBrake, .bRearBrake]
  | .frontLock => [.bFrontBrake]

/-- The wheel a monitor watches (R107). -/
def MonitorName.wheel : MonitorName → Wheel
  | .rearSpin | .rearLock => .rear
  | .frontLock => .front

/-- The ports from which a monitor's clamp may be cleared (R107). -/
def MonitorName.clearedFrom (m : MonitorName) (p : PortName) : Bool :=
  match m, p with
  | _, .c => true
  | .rearSpin, .e => true
  | .rearSpin, .b => false
  | .rearLock, _ => true
  | .frontLock, .b => true
  | .frontLock, .e => false

/-- The other wheel. -/
def Wheel.other : Wheel → Wheel
  | .front => .rear
  | .rear => .front

end Sys2Proof

namespace Sys2Proof.Machine

/-- The part is operating: neither OFF nor held in RESET (R184). -/
def State.operating (s : State) : Bool :=
  match s.sup.start with
  | .off | .reset => false
  | .loading | .sensorWait | .running => true

/-- The part is in RUNNING (R190). -/
def State.running (s : State) : Bool := s.sup.start == .running

end Sys2Proof.Machine
end

