-- ==== Sys2Proof/Machine/Arith.lean ====
section
/-! DEFINITION. The integer arithmetic of 00_scope.md: the rounding words of R1, isqrt, the two tables of R2, and the
two-byte fields of R196. -/
namespace Sys2Proof.Machine

/-- `clamped to lo..hi` on signed values (R1). -/
def clampInt (lo hi x : Int) : Int := if x < lo then lo else if hi < x then hi else x

/-- `clamped to lo..hi` on non-negative values (R1). -/
def clampNat (lo hi x : Nat) : Nat := if x < lo then lo else if hi < x then hi else x

/-- `truncated(x / y)`: rounded toward zero (R1). -/
def truncated (x y : Int) : Int := x.tdiv y

/-- `rounded(x / y)` for positive `y`: to the nearest integer, a half away from zero (R1). -/
def rounded (x : Int) (y : Nat) : Int :=
  if x < 0 then -(((2 * x.natAbs + y) / (2 * y) : Nat) : Int) else (((2 * x.natAbs + y) / (2 * y) : Nat) : Int)

/-- `saturating at n`: one more, but never past `n` (R1). -/
def saturatingSucc (n x : Nat) : Nat := min n (x + 1)

/-- The bits of a square root, from bit `k - 1` down, on top of the partial root `r`. -/
def isqrtBits (x : Nat) : Nat → Nat → Nat
  | 0, r => r
  | k + 1, r => if (r + 2 ^ k) * (r + 2 ^ k) ≤ x then isqrtBits x k (r + 2 ^ k) else isqrtBits x k r

/-- isqrt(x): the largest integer whose square does not exceed `x` (R1). -/
def isqrt (x : Nat) : Nat := isqrtBits x (x.log2 / 2 + 1) 0

/-! ## The two tables (R2)

The entries are worked out rather than listed: an angle of `h` half-centidegrees is `h * pi / 36000` radians, carried
as an integer in units of 10^-40, and its sine and cosine come from their Taylor series in nested form, cut after
16 factors (the next term is below 10^-35 at 60 degrees). No entry lies within 10^-5 of a
rounding boundary, so the rounding is that of the real value. -/

/-- The unit of the tables' fixed-point figures. -/
def tableScale : Nat := 10000000000000000000000000000000000000000

/-- pi in units of 10^-40. -/
def tablePi : Nat := 31415926535897932384626433832795028841972

/-- 1 - (y / d₁) (1 - (y / d₂) (1 - …)) in table units, `y` being a squared angle in table units. -/
def nestedSeries (y : Nat) : List Nat → Nat
  | [] => tableScale
  | d :: ds => tableScale - y * nestedSeries y ds / (tableScale * d)

/-- The angle of `h` half-centidegrees in table units. -/
def tableAngle (h : Nat) : Nat := h * tablePi / 36000

/-- The cosine of `h` half-centidegrees, up to 60 degrees, in table units. -/
def tableCos (h : Nat) : Nat :=
  nestedSeries (tableAngle h * tableAngle h / tableScale)
    [2, 12, 30, 56, 90, 132, 182, 240, 306, 380, 462, 552, 650, 756, 870, 992]

/-- The sine of `h` half-centidegrees, up to 60 degrees, in table units. -/
def tableSin (h : Nat) : Nat :=
  tableAngle h * nestedSeries (tableAngle h * tableAngle h / tableScale)
    [6, 20, 42, 72, 110, 156, 210, 272, 342, 420, 506, 600, 702, 812, 930, 1056] / tableScale

/-- The tangent table: 1000 tan of `x` cd, rounded, for 0..6000 (R2). -/
def tangentTable (x : Nat) : Nat := (2000 * tableSin (2 * x) + tableCos (2 * x)) / (2 * tableCos (2 * x))

/-- The tangent of `n` cd less half a centidegree does not exceed `ratio / 1000`. -/
def arctangentReaches (ratio n : Nat) : Bool :=
  1000 * tableSin (2 * n - 1) ≤ ratio * tableCos (2 * n - 1)

/-- The bits of an arctangent entry, from bit `k - 1` down. -/
def arctangentBits (ratio : Nat) : Nat → Nat → Nat
  | 0, n => n
  | k + 1, n =>
    if n + 2 ^ k ≤ 6000 && arctangentReaches ratio (n + 2 ^ k) then arctangentBits ratio k (n + 2 ^ k)
    else arctangentBits ratio k n

/-- The arctangent table: the arctangent of `ratio / 1000` in cd, rounded, for ratios 0..1732 (R2): the largest `n`
whose lower rounding boundary the ratio reaches. -/
def arctangentTable (ratio : Nat) : Nat := arctangentBits ratio 13 0

/-- The arctangent table at a signed ratio (R2: a negative ratio gives the negated value). -/
def arctangentSigned (ratio : Int) : Int :=
  if ratio < 0 then -(arctangentTable ratio.natAbs : Int) else (arctangentTable ratio.natAbs : Int)

/-! ## Two-byte fields, most significant byte first (R196) -/

/-- A two-byte field. -/
def word16 (hi lo : Byte) : Word16 := hi ++ lo

/-- An unsigned two-byte field. -/
def unsigned16 (hi lo : Byte) : Nat := (word16 hi lo).toNat

/-- A signed two-byte field, in two's complement. -/
def signed16 (hi lo : Byte) : Int := (word16 hi lo).toInt

/-- A one-byte code. -/
def byteOf (n : Nat) : Byte := BitVec.ofNat 8 n

/-- The two bytes of a 16-bit word. -/
def bytesOfWord (w : Word16) : List Byte := [w.extractLsb' 8 8, w.extractLsb' 0 8]

/-- The two bytes of an unsigned value. -/
def bytesOfNat (n : Nat) : List Byte := bytesOfWord (BitVec.ofNat 16 n)

/-- The two bytes of a signed value. -/
def bytesOfInt (i : Int) : List Byte := bytesOfWord (BitVec.ofInt 16 i)

/-- One bit of a packed byte. -/
def bitOf (b : Bool) : Nat := if b then 1 else 0

end Sys2Proof.Machine
end

