-- ==== Sys2Proof/Machine/Params.lean ====
section
/-! DEFINITION. The parameters as each block uses them: the working copy's values, clamped or replaced as the block's
chapter states (R9, R28, R44, R62, R65, R87, R88, R108, R129, R181). -/
namespace Sys2Proof.Machine

/-- A wheel's circumference C in mm, clamped (R9). -/
def WorkingCopy.circumference (c : WorkingCopy) (w : Wheel) : Nat := clampNat 1000 3000 (c.s0.circumference.get w)

/-- A wheel's tooth count T, clamped (R9). -/
def WorkingCopy.teeth (c : WorkingCopy) (w : Wheel) : Nat := clampNat 32 128 (c.s0.teeth.get w)

/-- The mount roll offset, clamped (R28). -/
def WorkingCopy.mountRoll (c : WorkingCopy) : Int := clampInt (-500) 500 c.s0.mountRoll

/-- A line's full scale, clamped (R129). -/
def WorkingCopy.fullScale (c : WorkingCopy) (l : LineName) : Nat := clampNat 1000 20000 (c.s0.fullScale.get l)

/-- The class mass m in kg, clamped (R44). -/
def WorkingCopy.mass (c : WorkingCopy) (k : LoadClass) : Nat := clampNat 200 1000 (c.s0.classes.get k).mass

/-- The static front load fraction f0, clamped (R44). -/
def WorkingCopy.staticFront (c : WorkingCopy) (k : LoadClass) : Nat := clampNat 50 950 (c.s0.classes.get k).frontPm

/-- The load-transfer factor hwb, clamped (R44). -/
def WorkingCopy.hwb (c : WorkingCopy) (k : LoadClass) : Nat := clampNat 0 1000 (c.s0.classes.get k).hwb

/-- The friction nominal of a profile, clamped (R44). -/
def WorkingCopy.muNom (c : WorkingCopy) (p : Profile) : Nat := clampNat 100 1300 (c.s1.get p).muNom

/-- The reserve of a profile, clamped (R44). -/
def WorkingCopy.reserve (c : WorkingCopy) (p : Profile) : Nat := clampNat 0 500 (c.s1.get p).reserve

/-- floor_pm, clamped (R44). -/
def WorkingCopy.floorPm (c : WorkingCopy) : Nat := clampNat 0 100 c.s2.floorPm

/-- soft spin of a profile, clamped (R108). -/
def WorkingCopy.softSpin (c : WorkingCopy) (p : Profile) : Int := clampInt 10 900 (c.s1.get p).softSpin

/-- hard spin of a profile, clamped (R108). -/
def WorkingCopy.hardSpin (c : WorkingCopy) (p : Profile) : Int := clampInt (c.softSpin p) 1000 (c.s1.get p).hardSpin

/-- soft lock of a profile, clamped (R108). -/
def WorkingCopy.softLock (c : WorkingCopy) (p : Profile) : Int := clampInt (-800) (-10) (c.s1.get p).softLock

/-- hard lock of a profile, clamped (R108). -/
def WorkingCopy.hardLock (c : WorkingCopy) (p : Profile) : Int := clampInt (-900) (c.softLock p) (c.s1.get p).hardLock

/-- D of a profile, clamped (R108). -/
def WorkingCopy.delay (c : WorkingCopy) (p : Profile) : Nat := clampNat 0 50 (c.s1.get p).delay

/-- soft_hold of a profile, clamped (R108). -/
def WorkingCopy.softHold (c : WorkingCopy) (p : Profile) : Nat := clampNat 1 250 (c.s1.get p).softHold

/-- soft_level of a profile, clamped (R108). -/
def WorkingCopy.softLevel (c : WorkingCopy) (p : Profile) : Nat := clampNat 0 1000 (c.s1.get p).softLevel

/-- blank of a profile, clamped (R108). -/
def WorkingCopy.blank (c : WorkingCopy) (p : Profile) : Nat := clampNat 1 250 (c.s1.get p).blank

/-- shift_blank, clamped (R108). -/
def WorkingCopy.shiftBlank (c : WorkingCopy) : Nat := clampNat 1 250 c.s2.shiftBlank

/-- hard_auto, clamped (R108). -/
def WorkingCopy.hardAuto (c : WorkingCopy) : Nat := clampNat 0 1000 c.s2.hardAuto

/-- The ramp of a profile, clamped (R88). -/
def WorkingCopy.ramp (c : WorkingCopy) (p : Profile) : Nat := clampNat 1 20000 (c.s1.get p).ramp

/-- drive_pm, clamped (R87). -/
def WorkingCopy.drivePm (c : WorkingCopy) : Nat := clampNat 0 1000 c.s2.drivePm

/-- recover_cycles, clamped (R65). -/
def WorkingCopy.recoverCycles (c : WorkingCopy) : Nat := clampNat 25 500 c.s2.recoverCycles

/-- The profile a code names (R197). -/
def profileOfCode : Nat → Option Profile
  | 0 => some .touring
  | 1 => some .rain
  | 2 => some .spirited
  | _ => none

/-- The load class a code names (R197). -/
def classOfCode : Nat → Option LoadClass
  | 0 => some .solo
  | 1 => some .pillion
  | 2 => some .laden
  | 3 => some .pillionLaden
  | _ => none

/-- The split policy a code names (R197). -/
def policyOfCode : Nat → Option Policy
  | 0 => some .brakeFirst
  | 1 => some .proportional
  | 2 => some .fixedSplit
  | _ => none

/-- The warning level a code names (R197). -/
def warningLevelOfCode : Nat → Option WarningLevel
  | 0 => some .v85
  | 1 => some .v90
  | 2 => some .v95
  | 3 => some .v100
  | _ => none

/-- The default profile of S2, or its built-in replacement (R62, R164). -/
def WorkingCopy.defaultProfile (c : WorkingCopy) : Profile := (profileOfCode c.s2.profile).getD .touring

/-- The default class of S2, or its built-in replacement (R62, R164). -/
def WorkingCopy.defaultClass (c : WorkingCopy) : LoadClass := (classOfCode c.s2.cls).getD .solo

/-- The default policy of S2, or its built-in replacement (R62, R164). -/
def WorkingCopy.defaultPolicy (c : WorkingCopy) : Policy := (policyOfCode c.s2.policy).getD .brakeFirst

/-- The supply warning level of S2; a value outside the four is replaced by 9.0 V (R181). -/
def WorkingCopy.warningLevel (c : WorkingCopy) : WarningLevel := (warningLevelOfCode c.s2.warningLevel).getD .v90

/-- A warning level L in millivolts (R181). -/
def WarningLevel.millivolts : WarningLevel → Nat
  | .v85 => 8500
  | .v90 => 9000
  | .v95 => 9500
  | .v100 => 10000

/-- The profile in force (R50). -/
def State.profile (s : State) : Profile := s.gbu.settings.profile

/-- The working copy. -/
def State.params (s : State) : WorkingCopy := s.cst.working

/-- The ramp of the profile in force, as it stands when the GRE uses it (R88). -/
def State.ramp (s : State) : Nat := s.params.ramp s.profile

end Sys2Proof.Machine
end

