-- ==== Sys2Proof/Machine/Flash.lean ====
section
/-! DEFINITION. The flash memory of the calibration store: four sectors of 256 bytes (R162), their check words, the
parameters the load takes from them (R163, R202), and what erases, programs and interruptions leave (R172 to R177). -/
namespace Sys2Proof

/-- The number of a sector (R197). -/
def Sector.code : Sector → Nat
  | .s0 => 0
  | .s1 => 1
  | .s2 => 2
  | .s3 => 3

/-- The first address of a sector. -/
def Sector.base (k : Sector) : Nat := 256 * k.code

end Sys2Proof

namespace Sys2Proof.Machine

/-- What an unlisted address reads as: an erased byte (R162). -/
def erasedByte : Byte := 0xFF

/-- The number of bytes of the flash memory. -/
def flashSize : Nat := 1024

/-- One byte of flash. -/
def Memory.read : Memory → Nat → Byte
  | [], _ => erasedByte
  | (x, v) :: rest, a => if a = x then v else Memory.read rest a

/-- One byte of flash replaced, keeping the canonical form. -/
def Memory.put : Memory → Nat → Byte → Memory
  | [], a, v => if v = erasedByte then [] else [(a, v)]
  | (x, u) :: rest, a, v =>
    if a < x then (if v = erasedByte then (x, u) :: rest else (a, v) :: (x, u) :: rest)
    else if a = x then (if v = erasedByte then rest else (a, v) :: rest)
    else (x, u) :: Memory.put rest a v

/-- Canonical from address `lo` on: addresses strictly rising and below 1024, no entry erased. -/
def Memory.wfFrom (lo : Nat) : Memory → Bool
  | [] => true
  | (x, v) :: rest => decide (lo ≤ x) && decide (x < flashSize) && (v != erasedByte) && Memory.wfFrom (x + 1) rest

/-- The canonical form: equal memories are equal lists. -/
def Memory.wf (m : Memory) : Bool := m.wfFrom 0

/-- Bytes written one after another from an address on; the array has no byte past its end. -/
def Memory.putAll (m : Memory) (a : Nat) : List Byte → Memory
  | [] => m
  | v :: rest => if a < flashSize then Memory.putAll (m.put a v) (a + 1) rest else m

/-- The bytes from an address on. -/
def Memory.readAll (m : Memory) (a n : Nat) : List Byte := (List.range n).map fun i => m.read (a + i)

/-- The sector a code names (R197). -/
def sectorOfCode : Nat → Option Sector
  | 0 => some .s0
  | 1 => some .s1
  | 2 => some .s2
  | 3 => some .s3
  | _ => none

/-- Every byte of a sector erased (R172). -/
def Memory.eraseSector (m : Memory) (k : Sector) : Memory :=
  m.filter fun cell => decide (cell.1 < k.base) || decide (k.base + 256 ≤ cell.1)

/-- Bytes written into a sector from an offset on; a sector has no byte past 255. -/
def Memory.writeSector (m : Memory) (k : Sector) (offset : Nat) (bytes : List Byte) : Memory :=
  m.putAll (k.base + offset) (bytes.take (256 - offset))

/-- The bytes of a sector from an offset on. -/
def Memory.readSector (m : Memory) (k : Sector) (offset n : Nat) : List Byte := m.readAll (k.base + offset) n

/-- Every byte of a list is erased. -/
def allErased (bytes : List Byte) : Bool := bytes.all fun v => v == erasedByte

/-- The sum of bytes, each taken as an unsigned value. -/
def byteSum (bytes : List Byte) : Nat := (bytes.map BitVec.toNat).sum

/-- A sector passes its check: bytes 254 and 255 hold 65535 minus the sum of bytes 0 to 253 (R162). -/
def Memory.passes (m : Memory) (k : Sector) : Bool :=
  unsigned16 (m.read (k.base + 254)) (m.read (k.base + 255)) == 65535 - byteSum (m.readSector k 0 254)

/-! ## The parameters of a sector that passes (R202) -/

/-- A one-byte field. -/
def Memory.u8 (m : Memory) (k : Sector) (i : Nat) : Nat := (m.read (k.base + i)).toNat

/-- An unsigned two-byte field. -/
def Memory.u16 (m : Memory) (k : Sector) (i : Nat) : Nat := unsigned16 (m.read (k.base + i)) (m.read (k.base + i + 1))

/-- A signed two-byte field. -/
def Memory.s16 (m : Memory) (k : Sector) (i : Nat) : Int := signed16 (m.read (k.base + i)) (m.read (k.base + i + 1))

/-- The parameters of one load class, from byte `i` of S0 on. -/
def Memory.classParams (m : Memory) (i : Nat) : ClassParams := ⟨m.u16 .s0 i, m.u16 .s0 (i + 2), m.u16 .s0 (i + 4)⟩

/-- The parameters of S0 (R202). -/
def Memory.vehicle (m : Memory) : VehicleSector where
  circumference := ⟨m.u16 .s0 0, m.u16 .s0 2⟩
  teeth := ⟨m.u8 .s0 4, m.u8 .s0 5⟩
  classes := ⟨m.classParams 6, m.classParams 12, m.classParams 18, m.classParams 24⟩
  mountRoll := m.s16 .s0 30
  fullScale := ⟨m.u16 .s0 32, m.u16 .s0 34, m.u16 .s0 36⟩

/-- The parameters of one profile block of S1, from byte `i` on (R202). -/
def Memory.profileParams (m : Memory) (i : Nat) : ProfileParams where
  muNom := m.u16 .s1 i
  reserve := m.u16 .s1 (i + 2)
  softSpin := m.s16 .s1 (i + 4)
  hardSpin := m.s16 .s1 (i + 6)
  softLock := m.s16 .s1 (i + 8)
  hardLock := m.s16 .s1 (i + 10)
  delay := m.u8 .s1 (i + 12)
  softHold := m.u8 .s1 (i + 13)
  softLevel := m.u16 .s1 (i + 14)
  ramp := m.u16 .s1 (i + 16)
  blank := m.u8 .s1 (i + 18)

/-- The parameters of S1 (R202). -/
def Memory.profiles (m : Memory) : PerProfile ProfileParams :=
  ⟨m.profileParams 0, m.profileParams 32, m.profileParams 64⟩

/-- The parameters of S2 (R202). -/
def Memory.arbitration (m : Memory) : ArbitrationSector where
  profile := m.u8 .s2 0
  cls := m.u8 .s2 1
  policy := m.u8 .s2 2
  warningLevel := m.u8 .s2 3
  drivePm := m.u16 .s2 4
  floorPm := m.u16 .s2 6
  recoverCycles := m.u16 .s2 8
  hardAuto := m.u16 .s2 10
  shiftBlank := m.u8 .s2 12

/-- The bytes of a parameter sector that hold no parameter (R202); S3 has no place in the working copy. -/
def Memory.spareBytes (m : Memory) (k : Sector) : List Byte :=
  match k with
  | .s0 => m.readSector .s0 38 216
  | .s1 => m.readSector .s1 19 13 ++ m.readSector .s1 51 13 ++ m.readSector .s1 83 171
  | .s2 => m.readSector .s2 13 241
  | .s3 => []

/-- The bytes that hold no parameter, as a load takes them: those of a sector that passes; a sector that fails is
replaced by its defaults, which have none (R163, R164; log 28). -/
def Memory.loadedSpare (m : Memory) (k : Sector) : List Byte := if m.passes k then m.spareBytes k else []

/-- The working copy a load takes: bytes 0 to 253 of each sector that passes as they stand, the built-in defaults of the
whole sector for each that fails (R163). -/
def Memory.load (m : Memory) : WorkingCopy where
  s0 := if m.passes .s0 then m.vehicle else builtInVehicle
  s1 := if m.passes .s1 then m.profiles else builtInProfiles
  s2 := if m.passes .s2 then m.arbitration else builtInArbitration
  spare := ⟨m.loadedSpare .s0, m.loadedSpare .s1, m.loadedSpare .s2⟩

/-- The DEFAULTED mask of a load (R163). -/
def Memory.defaulted (m : Memory) : DefaultedMask := ⟨!m.passes .s0, !m.passes .s1, !m.passes .s2⟩

/-- The lock state after a load: LOCKED when S3 fails its check or its lock word reads 0x00 (R165). -/
def Memory.lockState (m : Memory) : LockState :=
  if !m.passes .s3 || m.read (Sector.base .s3) == 0 then .locked else .unlocked

/-! ## What the array leaves -/

/-- A sector after an erase: erased, or what the array left (R172). -/
def Memory.afterErase (m : Memory) (k : Sector) (left : ArrayLeft) : Memory :=
  match left with
  | none => m.eraseSector k
  | some bytes => (m.eraseSector k).writeSector k 0 bytes

/-- Bytes as they read once programmed into a sector from an offset on: flash programming only clears bits (R175). -/
def Memory.cleared (m : Memory) (k : Sector) (offset : Nat) (bytes : List Byte) : List Byte :=
  List.zipWith (fun old new => old &&& new) (m.readSector k offset bytes.length) bytes

/-- Bytes programmed into a sector from an offset on (R173, R175). -/
def Memory.programSector (m : Memory) (k : Sector) (offset : Nat) (bytes : List Byte) : Memory :=
  m.writeSector k offset (m.cleared k offset bytes)

/-- The bytes a program puts over those of its target: those the request carried, or those the array left at as many
bytes (R173). That a list of what the array left which is shorter than the target leaves the bytes after it as the
program would is the model's choice (log 17). -/
def sentToArray (bytes : List Byte) (left : ArrayLeft) : List Byte :=
  match left with
  | none => bytes
  | some other => other.take bytes.length ++ bytes.drop other.length

/-- A sector after a program (R173). Whatever the array left, no bit that was clear is set (R175). -/
def Memory.afterProgram (m : Memory) (k : Sector) (offset : Nat) (bytes : List Byte) (left : ArrayLeft) : Memory :=
  m.programSector k offset (sentToArray bytes left)

/-- The free bytes of a cut-short operation at `n` addresses from `a` on. -/
def freeBytes (use a n : Nat) : List Byte := (List.range n).map fun i => Config.freeByte use (a + i)

/-- A byte other than the one read, with no bit set that was clear in the old byte, where there is such a byte (log
18). -/
def otherByte (old now : Byte) : Byte := if now ≠ old then old else if now ≠ 0 then 0 else 1

/-- Target bytes an operation was cut short on, of which the manual says that the sector fails its check (R177). Where
the bytes given would let the sector pass, its first target byte is another one (log 18). -/
def Memory.spoil (m : Memory) (k : Sector) (offset : Nat) (bytes : List Byte) : Memory :=
  let spoiled := m.writeSector k offset bytes
  if spoiled.passes k then
    spoiled.writeSector k offset [otherByte (m.read (k.base + offset)) (spoiled.read (k.base + offset))]
  else spoiled

/-- A sector whose erase was cut short: free bytes (R177). -/
def Memory.eraseCut (m : Memory) (use : Nat) (k : Sector) : Memory := m.spoil k 0 (freeBytes use k.base 256)

/-- A sector whose programming was cut short: free bytes, in which no bit that was clear is set (R175, R177). -/
def Memory.programCut (m : Memory) (use : Nat) (k : Sector) (offset n : Nat) : Memory :=
  m.spoil k offset (m.cleared k offset (freeBytes use (k.base + offset) n))

/-- The sector a wipe erases after `erased` sectors (R176). -/
def wipeSector (erased : Nat) : Option Sector := sectorOfCode erased

/-- The flash after the operation in flight is cut short (R177). -/
def Memory.cutShort (m : Memory) (use : Nat) : FlashOperation → Memory
  | .erase k => m.eraseCut use k
  | .program k offset bytes => m.programCut use k offset bytes.length
  | .lock => m.programCut use .s3 0 1
  | .wipe erased _ =>
    match wipeSector erased with
    | some k => m.eraseCut use k
    | none => m

end Sys2Proof.Machine
end

