-- ==== Sys2Proof/Machine/Operands.lean ====
section
/-! DEFINITION. What a frame's bytes say: kind codes, accepted lengths and rights (R143, R144, R198), the fields of a
request's payload (R156, R198), the codes of replies (R197), whole frames (R199) and the inertial block (R201). -/
namespace Sys2Proof

/-- The code of a message kind (R198). -/
def MessageKind.code : MessageKind → Nat
  | .grantRequest => 0x20
  | .grantRelease => 0x21
  | .useReport => 0x22
  | .clampClear => 0x30
  | .shiftNotice => 0x31
  | .profileSet => 0x40
  | .calOpen => 0x50
  | .calErase => 0x51
  | .calProgram => 0x52
  | .calRead => 0x53
  | .calLock => 0x54
  | .calWipe => 0x55
  | .calClose => 0x56
  | .checkTest => 0x60
  | .linkHold => 0x61
  | .status => 0x80
  | .reply => 0x81

/-- The value of a reply code (R197). -/
def ReplyCode.code : ReplyCode → Nat
  | .ok => 0x00
  | .short => 0x01
  | .clamped => 0x02
  | .deferred => 0x03
  | .notPermitted => 0x10
  | .badField => 0x11
  | .notHeld => 0x12
  | .slipPresent => 0x13
  | .notReady => 0x14
  | .notStandstill => 0x15
  | .noService => 0x16
  | .locked => 0x17
  | .notErased => 0x19
  | .verifyFail => 0x1A
  | .lowSupply => 0x1B

/-- The lengths accepted for a kind (R198). -/
def MessageKind.accepts (kind : MessageKind) (len : Nat) : Bool :=
  match kind with
  | .grantRequest => len == 5
  | .grantRelease => len == 2
  | .useReport => len == 4
  | .clampClear => len == 1
  | .shiftNotice => len == 0
  | .profileSet => len == 1 || len == 3
  | .calOpen | .calLock | .calWipe | .calClose | .linkHold => len == 0
  | .calErase | .checkTest => len == 1
  | .calProgram => decide (3 ≤ len) && decide (len ≤ 18)
  | .calRead => len == 3
  | .status => len == 30 || len == 36 || len == 42 || len == 48 || len == 54
  | .reply => len == 2 || (decide (5 ≤ len) && decide (len ≤ 28))

/-- The kinds a port accepts (R144). -/
def PortName.mayReceive (p : PortName) (kind : MessageKind) : Bool :=
  match kind with
  | .grantRequest | .grantRelease | .useReport => p != .c
  | .clampClear | .checkTest | .linkHold => true
  | .shiftNotice => p == .e
  | .profileSet => p == .c
  | .calOpen | .calErase | .calProgram | .calRead | .calLock | .calWipe | .calClose => p == .c
  | .status | .reply => false

/-- The kinds the grant engine owns (R144). -/
def MessageKind.grantKind : MessageKind → Bool
  | .grantRequest | .grantRelease | .useReport => true
  | .clampClear | .shiftNotice | .profileSet | .calOpen | .calErase | .calProgram | .calRead | .calLock | .calWipe
  | .calClose | .checkTest | .linkHold | .status | .reply => false

/-- The kinds whose answers the calibration store records as the last result (R170). -/
def MessageKind.calibrationKind : MessageKind → Bool
  | .calOpen | .calErase | .calProgram | .calRead | .calLock | .calWipe | .calClose => true
  | .grantRequest | .grantRelease | .useReport | .clampClear | .shiftNotice | .profileSet | .checkTest | .linkHold
  | .status | .reply => false

end Sys2Proof

namespace Sys2Proof.Machine

/-- The kind a code names (R198). -/
def kindOfCode (c : Nat) : Option MessageKind :=
  if c = 0x20 then some .grantRequest
  else if c = 0x21 then some .grantRelease
  else if c = 0x22 then some .useReport
  else if c = 0x30 then some .clampClear
  else if c = 0x31 then some .shiftNotice
  else if c = 0x40 then some .profileSet
  else if c = 0x50 then some .calOpen
  else if c = 0x51 then some .calErase
  else if c = 0x52 then some .calProgram
  else if c = 0x53 then some .calRead
  else if c = 0x54 then some .calLock
  else if c = 0x55 then some .calWipe
  else if c = 0x56 then some .calClose
  else if c = 0x60 then some .checkTest
  else if c = 0x61 then some .linkHold
  else if c = 0x80 then some .status
  else if c = 0x81 then some .reply
  else none

/-! ## Whole frames -/

/-- The check byte of a frame: the XOR of every byte before it, XOR 0x5A (R143). -/
def checkByte (bytes : List Byte) : Byte := bytes.foldl (fun x y => x ^^^ y) 0 ^^^ 0x5A

/-- A frame of a kind with a payload: kind, length, payload, check byte (12, The link frame). -/
def frameOf (kind : MessageKind) (payload : List Byte) : List Byte :=
  byteOf kind.code :: byteOf payload.length :: payload
    ++ [checkByte (byteOf kind.code :: byteOf payload.length :: payload)]

/-- The frame of a REPLY (R199). -/
def Reply.frame (r : Reply) : List Byte := frameOf .reply (byteOf r.kind.code :: byteOf r.code.code :: r.rest)

/-- A frame with its check byte inverted (R158). -/
def invertCheck (frame : List Byte) : List Byte :=
  frame.dropLast ++ (frame.getLast?.toList.map fun v => v ^^^ 0xFF)

/-- The judgement of an ended frame at a port: none when any of the four tests fails, else its request (R143). -/
def Receiver.judge (r : Receiver) (p : PortName) : Option Request :=
  match r.bytes with
  | kind :: len :: rest =>
    match kindOfCode kind.toNat with
    | none => none
    | some k =>
      if !r.fault && (r.bytes.getLast? == some (checkByte r.bytes.dropLast)) && decide (len.toNat ≤ 28)
          && (r.count == len.toNat + 3) && (r.bytes.length == r.count) && k.accepts len.toNat && p.mayReceive k then
        some ⟨k, rest.dropLast⟩
      else none
  | _ => none

/-! ## The fields of a request (R198) -/

/-- One payload byte as a number. -/
def Request.byte (r : Request) (i : Nat) : Nat := (r.payload.getD i 0).toNat

/-- An unsigned two-byte field of the payload. -/
def Request.unsigned (r : Request) (i : Nat) : Nat := unsigned16 (r.payload.getD i 0) (r.payload.getD (i + 1) 0)

/-- The wheel a code names (R197). -/
def wheelOfCode : Nat → Option Wheel
  | 0 => some .front
  | 1 => some .rear
  | _ => none

/-- The direction a code names (R197). -/
def directionOfCode : Nat → Option Direction
  | 0 => some .drive
  | 1 => some .brake
  | _ => none

/-- The monitor a code names (R197). -/
def monitorOfCode : Nat → Option MonitorName
  | 0 => some .rearSpin
  | 1 => some .rearLock
  | 2 => some .frontLock
  | _ => none

/-- The amount of a GRANT_REQUEST or the force of a USE_REPORT, clamped (R91, R97, R156). -/
def Request.force (r : Request) : Nat := min 20000 (r.unsigned 2)

/-- A GRANT_REQUEST with urgency URGENT (R80). -/
def Request.urgent (r : Request) : Bool := r.kind == .grantRequest && r.byte 4 == 1

/-- An optional field of PROFILE_SET: absent when the payload does not carry it or it holds 0xFF (R198). -/
def Request.optionalField (r : Request) (i : Nat) : Option Nat :=
  if r.payload.length ≤ i || r.byte i == 0xFF then none else some (r.byte i)

/-! ## The inertial block (R201) -/

/-- One byte of the block. -/
def blockByte (block : Vector Byte 16) (i : Nat) : Byte := block.toList.getD i 0

/-- A signed channel of the block. -/
def blockChannel (block : Vector Byte 16) (i : Nat) : Int := signed16 (blockByte block i) (blockByte block (i + 1))

/-- The check word a block must carry: the sum of its first 14 bytes, held in 16 bits and inverted (R4). -/
def blockCheck (block : Vector Byte 16) : Word16 := ~~~ BitVec.ofNat 16 (byteSum (block.toList.take 14))

/-- The six channels of a block, at bytes 2 to 13. -/
def blockChannels (block : Vector Byte 16) : List Int :=
  [2, 4, 6, 8, 10, 12].map (blockChannel block)

/-- R4: a received block is valid when the check word, ready, fresh and in-range tests all pass. -/
def blockValid (block : Vector Byte 16) (lastValid : Option Inertial) : Bool :=
  (word16 (blockByte block 14) (blockByte block 15) == blockCheck block)
    && (blockByte block 1).getLsbD 0
    && (match lastValid with | none => true | some r => blockByte block 0 != r.counter)
    && ((blockChannels block).all fun c => c != 32767 && c != -32767 && c != -32768)

/-- R5: the channels of a valid block, clamped, with its counter and status byte. -/
def blockInertial (block : Vector Byte 16) : Inertial where
  roll := clampInt (-30000) 30000 (blockChannel block 2)
  pitch := clampInt (-30000) 30000 (blockChannel block 4)
  yaw := clampInt (-30000) 30000 (blockChannel block 6)
  ax := clampInt (-4000) 4000 (blockChannel block 8)
  ay := clampInt (-4000) 4000 (blockChannel block 10)
  az := clampInt (-4000) 4000 (blockChannel block 12)
  counter := blockByte block 0
  status := blockByte block 1

end Sys2Proof.Machine
end

