-- ==== Sys2Proof/Machine/Flags.lean ====
section
/-! DEFINITION. The states and flags of grants (R77), and the codes and packed bits STATUS writes (R197, R200). -/
namespace Sys2Proof.Machine

/-- The monitor stands between a grant and its request: it is in HARD, or in SOFT with a cap for the key below the
requested force (R77). -/
def Monitor.clamps (m : Monitor) (k : GrantKey) (requested : Nat) : Bool :=
  match m.state with
  | .hard => true
  | .soft => match m.cap.get k with
    | some c => decide (c < requested)
    | none => false
  | .idle | .armed | .delaying | .blanking => false

/-- The state of a grant, derived (R77). -/
def deriveState (m : Monitor) (k : GrantKey) (requested granted : Nat) : GrantState :=
  if granted = requested then .full else if m.clamps k requested then .clamped else .short

/-- A grant with its state derived afresh (R77). -/
def Grant.rederive (g : Grant) (m : Monitor) (k : GrantKey) : Grant :=
  { g with state := deriveState m k g.requested g.granted }

/-- The result code of a served request for a grant in a state (R95). -/
def GrantState.replyCode : GrantState → ReplyCode
  | .full => .ok
  | .short => .short
  | .clamped => .clamped

/-! ## Codes (R197) -/

/-- The code of a confidence state. -/
def Confidence.code : Confidence → Nat
  | .unset => 0
  | .settling => 1
  | .tracking => 2
  | .drifting => 3
  | .coasting => 4
  | .lost => 5

/-- The code of a reference kind. -/
def RefKind.code : RefKind → Nat
  | .none => 0
  | .yaw => 1
  | .gravity => 2

/-- The code of a monitor state. -/
def MonitorState.code : MonitorState → Nat
  | .idle => 0
  | .armed => 1
  | .delaying => 2
  | .soft => 3
  | .hard => 4
  | .blanking => 5

/-- The code of a trigger kind. -/
def TriggerKind.code : TriggerKind → Nat
  | .none => 0
  | .syncSoft => 1
  | .syncHard => 2
  | .immediate => 3

/-- The code of a start cause. -/
def StartCause.code : StartCause → Nat
  | .powerOn => 0
  | .ignition => 1
  | .supplyLoss => 2
  | .resetLine => 3

/-- The code of a grant state. -/
def GrantState.code : GrantState → Nat
  | .full => 0
  | .short => 1
  | .clamped => 2

end Sys2Proof.Machine

namespace Sys2Proof

/-- The code of a profile. -/
def Profile.code : Profile → Nat
  | .touring => 0
  | .rain => 1
  | .spirited => 2

/-- The code of a load class. -/
def LoadClass.code : LoadClass → Nat
  | .solo => 0
  | .pillion => 1
  | .laden => 2
  | .pillionLaden => 3

/-- The code of a split policy. -/
def Policy.code : Policy → Nat
  | .brakeFirst => 0
  | .proportional => 1
  | .fixedSplit => 2

end Sys2Proof

namespace Sys2Proof.Machine

/-! ## The packed bytes of STATUS (R200) -/

/-- Byte 2: start kind, start cause, start state, supply flag. -/
def statusStartByte (u : Sup) : Byte :=
  byteOf (128 * bitOf (u.kind == .warm) + 16 * u.cause.code + 2 * bitOf (u.start == .running) + bitOf u.low)

/-- Byte 3: confidence state, LEAN_SAT, ref_kind, v_ref_valid. -/
def statusConfidenceByte (r : EstimateRecord) : Byte :=
  byteOf (r.confidence.code + 8 * bitOf r.leanSat + 16 * r.refKind.code + 64 * bitOf r.vRefValid)

/-- Byte 20: profile in force, pending profile (3 when absent) and its kind. -/
def statusProfileByte (r : RideSettings) : Byte :=
  match r.pending with
  | none => byteOf (r.profile.code + 4 * 3)
  | some q => byteOf (r.profile.code + 4 * q.profile.code + 16 * bitOf (q.kind == .deferred))

/-- Byte 21: load class and split policy. -/
def statusClassByte (r : RideSettings) : Byte := byteOf (r.cls.code + 4 * r.policy.code)

/-- Bytes 22 to 24: a monitor's state and trigger kind. -/
def statusMonitorByte (m : Monitor) : Byte := byteOf (m.state.code + 16 * m.trigger.code)

/-- Byte 25: DEFAULTED mask, LOCKED, session OPEN. -/
def statusStoreByte (c : Cst) : Byte :=
  byteOf (bitOf c.defaulted.s0 + 2 * bitOf c.defaulted.s1 + 4 * bitOf c.defaulted.s2 + 8 * bitOf (c.lock == .locked)
    + 16 * bitOf (c.session == .opened))

/-- Bytes 26 and 27: the last calibration result. -/
def statusLastBytes (c : Cst) : List Byte :=
  match c.last with
  | none => [0, 0]
  | some (kind, code) => [byteOf kind.code, byteOf code.code]

/-- Entry byte 5: grant state and flags. -/
def statusGrantByte (g : Grant) : Byte :=
  match g.confirmation with
  | .confirmed => byteOf (g.state.code + 4 * bitOf g.recovering + 8 * bitOf g.overuse)
  | .unconfirmed _ cause _ =>
    byteOf (g.state.code + 4 * bitOf g.recovering + 8 * bitOf g.overuse + 16 + 32 * bitOf (cause == .carried))

/-- The entry of a grant. -/
def statusEntry (k : GrantKey) (g : Grant) : List Byte :=
  [byteOf k.code] ++ bytesOfNat g.requested ++ bytesOfNat g.granted ++ [statusGrantByte g]

/-- The estimate record a STATUS frame reports when none is known: no re-evaluation completes before an estimate has
been published, so no frame carries it (log 13). -/
def EstimateRecord.none : EstimateRecord := ⟨0, .unset, 0, 0, 6000, .none, 0, 0, 0, false, false⟩

/-- The payload of the STATUS frame to a port (R154, R200). -/
def State.statusPayload (s : State) (p : PortName) : List Byte :=
  let r := s.gre.reported.getD .none
  bytesOfWord s.gre.budget.epoch ++ [statusStartByte s.sup, statusConfidenceByte r]
    ++ bytesOfInt r.lean ++ bytesOfNat r.u ++ bytesOfInt r.refLean ++ bytesOfNat r.vRef ++ bytesOfInt r.aF
    ++ bytesOfNat (s.gre.budget.force.get .front) ++ bytesOfNat (s.gre.budget.force.get .rear)
    ++ bytesOfNat s.gre.budget.mu
    ++ [statusProfileByte s.gbu.settings, statusClassByte s.gbu.settings,
        statusMonitorByte (s.monitor .rearSpin), statusMonitorByte (s.monitor .rearLock),
        statusMonitorByte (s.monitor .frontLock), statusStoreByte s.cst]
    ++ statusLastBytes s.cst ++ [byteOf (s.port p).badFrames, byteOf (s.port p).discards]
    ++ (p.listed.map fun k => ((s.grant k).map (statusEntry k)).getD []).flatten

end Sys2Proof.Machine
end

