-- ==== Sys2Proof/Machine/Ops.lean ====
section
/-! DEFINITION. The operations several commands share: deliveries to the ceiling lines, writes to the grant table, slip
events, triggers and clamp ends, and the ports' queues and transmitters. -/
namespace Sys2Proof.Machine

/-! ## Ceiling lines (07) -/

/-- The target code of a carried force at a full scale (R129). -/
def targetCode (fullScale : Nat) : Option Nat → Nat
  | none => 50
  | some g => 100 + min g fullScale * 800 / fullScale

/-- The force a code of 100..900 encodes (R130); codes 0 and 50 encode none, which reads 0 here. -/
def encodedForce (fullScale code : Nat) : Nat := (code - 100) * fullScale / 800

/-- The level stays high only while the period timer is below the code (R132). -/
def CeilingLine.below (l : CeilingLine) (code : Nat) : Bool :=
  match l.timer with
  | some t => decide (t < code)
  | none => false

/-- A delivery: a lower target code lowers the current and the preset code at once, any other sets the preset
(R132, R133). -/
def CeilingLine.deliver (l : CeilingLine) (force : Option Nat) : CeilingLine :=
  if targetCode l.fullScale force < l.current then
    { l with
      carried := force
      current := targetCode l.fullScale force
      preset := targetCode l.fullScale force
      high := l.high && l.below (targetCode l.fullScale force) }
  else { l with carried := force, preset := targetCode l.fullScale force }

/-- The granted force of a key, or its absence, delivered to the key's line if it has one (R102). -/
def State.deliver (s : State) (k : GrantKey) (force : Option Nat) : State :=
  match k.line with
  | none => s
  | some l => s.setLine l ((s.line l).deliver force)

/-! ## Writes to the grant table (05) -/

/-- The granted force of a key, or none where no grant exists. -/
def State.grantedForce (s : State) (k : GrantKey) : Option Nat := (s.grant k).map Grant.granted

/-- The grant of a key written, created or removed. A removal zeroes the key's report count (R66). A change of the
granted force, a creation and a removal are delivered to the key's line (R102). -/
def State.writeGrant (s : State) (k : GrantKey) (g : Option Grant) : State :=
  let t := s.setGre { s.gre with grants := s.gre.grants.set k g }
  let t := if g.isNone then t.setFlu { t.flu with reports := t.flu.reports.set k 0 } else t
  if s.grantedForce k = g.map Grant.granted then t else t.deliver k (g.map Grant.granted)

/-- A granted force cut to at most `v`; the ramp base follows it down (R78). -/
def Grant.lower (g : Grant) (v : Nat) : Grant :=
  { g with granted := min g.granted v, rampBase := min g.rampBase (min g.granted v) }

/-- An existing grant changed. -/
def State.changeGrant (s : State) (k : GrantKey) (f : Grant → Grant) : State :=
  match s.grant k with
  | none => s
  | some g => s.writeGrant k (some (f g))

/-- The existing grants of some keys changed. -/
def State.changeGrants (s : State) (keys : List GrantKey) (f : GrantKey → Grant → Grant) : State :=
  keys.foldl (fun t k => t.changeGrant k (f k)) s

/-- The grants held through a port become CONFIRMED (R101). -/
def State.confirmGrants (s : State) (p : PortName) : State :=
  s.changeGrants p.keys fun _ g => { g with confirmation := .confirmed }

/-- The grants held through a port become UNCONFIRMED, LINK_LOST, with countdown 250 and their granted force as the
frozen ceiling (R100). -/
def State.freezeGrants (s : State) (p : PortName) : State :=
  s.changeGrants p.keys fun _ g => { g with confirmation := .unconfirmed 250 .linkLost g.granted }

/-! ## Slip events (04) -/

/-- An event's contribution (R65). -/
def SlipEvent.contribution (e : SlipEvent) (recover : Nat) : Nat := e.muObs + 10 * (e.age / recover)

/-- The highest contribution in a list. -/
def highestContribution (recover : Nat) (events : List SlipEvent) : Nat :=
  events.foldl (fun x e => max x (e.contribution recover)) 0

/-- A new event offered to the list (R70). -/
def offerEvent (recover : Nat) (events : List SlipEvent) (e : SlipEvent) : List SlipEvent :=
  if events.length < 8 then events ++ [e]
  else if e.muObs < highestContribution recover events then
    events.eraseP (fun x => x.contribution recover == highestContribution recover events) ++ [e]
  else events

/-- The slip event a pending trigger is completed into from a budget publication and its estimate, if any (R69). -/
def slipEvent (p : BudgetPublication) (m : MonitorName) (force : Nat) : Option SlipEvent :=
  let load := (p.record.get m.wheel).load
  if load = 0 then none
  else
    let ratio := min 1732 (force * 1000 / load)
    let lat := tangentTable p.estimate.lean.natAbs
    some ⟨clampNat 100 1300 (isqrt (ratio * ratio + lat * lat)), 0⟩

/-- A pending trigger completed: the slip event it yields, if any, is offered to the list (R69, R70). -/
def completeTrigger (recover : Nat) (p : BudgetPublication) (events : List SlipEvent) (t : PendingTrigger) :
    List SlipEvent :=
  match slipEvent p t.monitor t.force with
  | none => events
  | some e => offerEvent recover events e

/-- The force of a grant at a trigger: its applied force when its report is fresh, else its granted force; 0 when it
does not exist (R67). -/
def State.slipForce (s : State) (k : GrantKey) : Nat :=
  match s.grant k with
  | none => 0
  | some g => if 0 < s.flu.reports.get k then g.applied.getD g.granted else g.granted

/-- The force F of a trigger: the sum over the grants the monitor affects (R67). -/
def State.triggerForce (s : State) (m : MonitorName) : Nat := (m.keys.map s.slipForce).sum

/-- The latest budget publication has the target epoch (R68). -/
def State.budgetOf (s : State) (target : Word16) : Option BudgetPublication :=
  s.gbu.publication.filter fun p => p.estimate.epoch == target

/-- A trigger taken by the FLU: not kept when F is 0 or six are pending, completed at once when the budgets of its
target epoch are out, else pending (R67, R68). -/
def State.takeTrigger (s : State) (m : MonitorName) (force : Nat) (target : Word16) : State :=
  if force = 0 ∨ 6 ≤ s.flu.triggers.length then s
  else
    match s.budgetOf target with
    | some p =>
      s.setFlu { s.flu with
        events := completeTrigger s.params.recoverCycles p s.flu.events ⟨m, force, target⟩ }
    | none => s.setFlu { s.flu with triggers := s.flu.triggers ++ [⟨m, force, target⟩] }

/-! ## Triggers and clamp ends (06, R98, R99, R114 to R117, R122) -/

/-- No cap for any key. -/
def noCaps : PerKey (Option Nat) := ⟨none, none, none, none⟩

/-- The caps fixed at a trigger into SOFT, from the granted forces just before it (R114). -/
def State.softCaps (s : State) (m : MonitorName) : PerKey (Option Nat) :=
  m.keys.foldl
    (fun caps k => caps.set k (some ((s.grantedForce k).getD 0 * s.params.softLevel s.profile / 1000))) noCaps

/-- The record of a monitor that triggers into SOFT (R114). -/
def State.softRecord (s : State) (m : MonitorName) : Monitor :=
  { s.monitor m with
    state := .soft
    count := s.params.softHold s.profile
    grace := true
    cap := s.softCaps m
    trigger := .syncSoft }

/-- The record of a monitor that triggers into HARD (R116). -/
def Monitor.hardRecord (x : Monitor) (kind : TriggerKind) : Monitor :=
  { x with state := .hard, count := 0, grace := false, cap := noCaps, within := 0, trigger := kind }

/-- A monitor's record taken over, and each grant it affects cut to its limit with its state derived from that record
(R98). The state is that of R77's table, so a grant left at its request by a soft_level of 1000 is FULL (log 38). -/
def State.clampGrants (s : State) (m : MonitorName) (x : Monitor) (limit : GrantKey → Nat) : State :=
  (s.setMonitor m x).changeGrants m.keys fun k g => (g.lower (limit k)).rederive x k

/-- A trigger into SOFT: the monitor's record, the capped grants, the FLU's trigger (R98, R114, R117). -/
def State.triggerSoft (s : State) (m : MonitorName) (target : Word16) : State :=
  (s.clampGrants m (s.softRecord m) fun k => ((s.softCaps m).get k).getD 0).takeTrigger m (s.triggerForce m) target

/-- A trigger into HARD: the monitor's record, the grants cut to 0, the FLU's trigger (R98, R116, R117). -/
def State.triggerHard (s : State) (m : MonitorName) (kind : TriggerKind) (target : Word16) : State :=
  (s.clampGrants m ((s.monitor m).hardRecord kind) fun _ => 0).takeTrigger m (s.triggerForce m) target

/-- A monitor's record taken over at the end of a clamp: the affected grants are RECOVERING and their states are
derived from that record; no force changes (R99). -/
def State.endClamp (s : State) (m : MonitorName) (x : Monitor) : State :=
  (s.setMonitor m x).changeGrants m.keys fun k g => { g with recovering := true }.rederive x k

/-- A monitor enters BLANKING at a clamp end (R115, R118, R122, R123). R118 sets the within-band count to 0 at the
automatic end of HARD; that it is 0 after an accepted CLAMP_CLEAR too is the model's choice (log 44). -/
def State.blankAfterClamp (s : State) (m : MonitorName) : State :=
  s.endClamp m { s.monitor m with
    state := .blanking, count := s.params.blank s.profile, grace := false, cap := noCaps, within := 0 }

/-- The record of a monitor that enters IDLE (R111). -/
def Monitor.idleRecord (x : Monitor) : Monitor := { x with state := .idle, count := 0, grace := false, cap := noCaps }

/-- A monitor enters IDLE; one that leaves SOFT ends its clamp (R111). -/
def State.idleMonitor (s : State) (m : MonitorName) : State :=
  if (s.monitor m).state = .soft then s.endClamp m (s.monitor m).idleRecord
  else s.setMonitor m (s.monitor m).idleRecord

/-- A monitor in one of the four states in which the immediate path acts (R119, R120). -/
def Monitor.watching (m : Monitor) : Bool :=
  match m.state with
  | .armed | .delaying | .soft | .blanking => true
  | .idle | .hard => false

/-- The target epoch of an immediate trigger: the first estimate published after it (R67). -/
def State.nextEpoch (s : State) : Word16 := s.leu.epoch + 1

/-! ## Ports (08) -/

/-- The head may be handed on: nothing is outstanding and, for a kind answered by a REPLY, the reply queue has a free
place (R146). -/
def Port.mayHandOn (x : Port) : Bool :=
  match x.queue with
  | [] => false
  | r :: _ => !x.outstanding && (r.kind == .useReport || decide (x.replies.length < 4))

/-- The head handed on to its owner when it may be (R146). -/
def Port.handOn (x : Port) : Port := if x.mayHandOn then { x with outstanding := true } else x

/-- The waiting STATUS frame begun (R151, R158). -/
def Port.beginStatus (x : Port) (payload : List Byte) : Port :=
  { x with
    slot := none
    lastSent := .status
    checkTest := x.checkTest - 1
    transmitter := .sending .status
      (if 0 < x.checkTest then invertCheck (frameOf .status payload) else frameOf .status payload) }

/-- A free transmitter takes the next frame: the sorts in turn when both wait, a reply sent when the port is UP at that
moment, else removed from the queue without being sent, and counted as the last sent (R151, R152; log 14). `fuel` bounds
the replies it may remove. -/
def Port.take : Nat → Port → Port
  | 0, x => x
  | fuel + 1, x =>
    if x.transmitter ≠ .free then x
    else
      match x.replies, x.slot with
      | [], none => x
      | [], some payload => x.beginStatus payload
      | r :: rest, slot =>
        match slot, x.lastSent with
        | some payload, .reply => x.beginStatus payload
        | _, _ =>
          if x.state = .up then
            { x with replies := rest, lastSent := .reply, transmitter := .sending .reply r.reply.frame }
          else Port.take fuel { x with replies := rest, lastSent := .reply }

/-- A port moves on: its transmitter takes what waits, and its head is handed on (R146, R151). -/
def Port.advance (x : Port) : Port := (x.take (x.replies.length + 1)).handOn

/-- The outstanding request leaves the queue (R147). -/
def Port.dequeue (x : Port) : Port := { x with queue := x.queue.tail, outstanding := false }

/-- A reply as it joins the reply queue, marked when the port is not UP at the hand-over (R195). -/
def Port.handed (x : Port) (r : Reply) : WaitingReply := ⟨r, x.state != .up⟩

/-- The outstanding request answered by a reply (R147, R152). -/
def Port.answer (x : Port) (r : Reply) : Port := { x.dequeue with replies := x.replies ++ [x.handed r] }.advance

/-- A request that has arrived joins the queue, or is discarded when the queue is full (R145). -/
def Port.enqueue (x : Port) (r : Request) : Port :=
  if x.queue.length < 4 then { x with queue := x.queue ++ [r] }.handOn
  else { x with discards := saturatingSucc 255 x.discards }

/-- A STATUS frame placed in the status slot, replacing any that waits (R153). -/
def Port.placeStatus (x : Port) (payload : List Byte) : Port := { x with slot := some payload }.advance

/-- The outstanding request of a port, if it has one. -/
def Port.served (x : Port) : Option Request := if x.outstanding then x.queue.head? else none

/-- The outstanding request of a port when it is of a kind. -/
def State.served (s : State) (p : PortName) (kind : MessageKind) : Option Request :=
  (s.port p).served.filter fun r => r.kind == kind

/-- A port's outstanding request answered. -/
def State.answer (s : State) (p : PortName) (r : Reply) : State := s.setPort p ((s.port p).answer r)

/-- The reply of a request with no remainder. -/
def State.answerCode (s : State) (p : PortName) (kind : MessageKind) (code : ReplyCode) : State :=
  s.answer p ⟨kind, code, []⟩

/-- The replies that were handed over while the port was not UP leave the queue unsent (R195), and the head is handed on
when a place they free lets it (R146). -/
def Port.dropAway (x : Port) : Port := { x with replies := x.replies.filter fun r => !r.away }.handOn

/-- A port comes UP. At Port C the replies handed over while it was not UP, which R195 does not send, leave their queue
here, so that R152's transmitter, which would send them, never finds them: when they leave is the model's choice
(log 41). -/
def Port.comesUp (x : Port) (p : PortName) : Port :=
  let y := { x with silence := 0, state := .up }
  if p = .c then y.dropAway else y

/-- Link presence: the silence count is 0 and a port that is not UP comes UP, which confirms its grants
(R101, R145). -/
def State.linkPresence (s : State) (p : PortName) : State :=
  if (s.port p).state = .up then s.setPort p { s.port p with silence := 0 }
  else (s.setPort p ((s.port p).comesUp p)).confirmGrants p

/-- A valid frame arrives at its port (R145). -/
def State.arrive (s : State) (p : PortName) (r : Request) : State :=
  let t := s.linkPresence p
  if r.kind = .linkHold then t else t.setPort p ((t.port p).enqueue r)

/-- The frame in assembly ends: it is judged, and the assembly hunts, its idle time running from the last byte
(R142, R143). -/
def State.endFrame (s : State) (p : PortName) : State :=
  let x := s.port p
  let hunting : Receiver := { x.receiver with state := .hunting, bytes := [], count := 0, fault := false }
  match x.receiver.judge p with
  | none => s.setPort p { x with receiver := hunting, badFrames := saturatingSucc 255 x.badFrames }
  | some r => (s.setPort p { x with receiver := hunting }).arrive p r

/-- The service session closes (R169). -/
def State.closeSession (s : State) : State := s.setCst { s.cst with session := .closed }

/-- A command's state change as the next state. -/
def go (s : State) : Host.Outcome State Fault Refusal := .next s

/-- An occurrence within a larger step (log 2): the step `t` is taken when it is one at which it occurs, else the
state stays. -/
def occurring (occurs : Bool) (t s : State) : Host.Outcome State Fault Refusal := go (if occurs then t else s)

/-- What happens only while the part is operating; held in OFF or RESET it does nothing (R184). -/
def State.whileOperating (s t : State) : State := if s.operating then t else s

end Sys2Proof.Machine
end

