-- ==== Sys2Proof/Machine/Lines.lean ====
section
/-! DEFINITION. The ceiling lines' own timing (07_ceiling_lines.md): the period start and the end of a pulse. What a
delivery does stands in Ops.lean. -/
namespace Sys2Proof.Machine

/-- A line whose timer runs starts a period: the timer counts from 0, the preset code becomes the current code and the
level goes high (R131). -/
def CeilingLine.periodStart (l : CeilingLine) : CeilingLine :=
  match l.timer with
  | none => l
  | some _ => { l with timer := some 0, current := l.preset, high := true }

/-- LINE_PERIOD_START (R131). -/
def execLinePeriodStart (l : LineName) (s : State) : Host.Outcome State Fault Refusal :=
  go (s.whileOperating (s.setLine l (s.line l).periodStart))

/-- A line whose level is high ends its pulse: the timer has reached the current code and the level goes low (R131). -/
def CeilingLine.pulseEnd (l : CeilingLine) : CeilingLine :=
  match l.timer with
  | none => l
  | some t => if l.high then { l with timer := some (max t l.current), high := false } else l

/-- LINE_PULSE_END (R131). -/
def execLinePulseEnd (l : LineName) (s : State) : Host.Outcome State Fault Refusal :=
  go (s.whileOperating (s.setLine l (s.line l).pulseEnd))

end Sys2Proof.Machine
end

