-- ==== Sys2Proof/Machine/Links.lean ====
section
/-! DEFINITION. The link ports (08_links_and_messages.md): receiving bytes and ending frames, the two link-level
requests, and the transmitter's times. -/
namespace Sys2Proof.Machine

/-! ## Receiving (R141 to R143) -/

/-- The gap before a byte that has just arrived: the idle time less the byte's own ten bit times (R141; log 23). -/
def Receiver.gap (r : Receiver) : Nat := r.idle - 10

/-- The byte begins a frame (R142). -/
def Receiver.begin (_ : Receiver) (byte : Byte) (stopFault : Bool) : Receiver := ⟨.assembling, [byte], 1, stopFault, 0⟩

/-- The byte is appended to the frame in assembly; beyond the 31st it is counted but not kept (R142). -/
def Receiver.append (r : Receiver) (byte : Byte) (stopFault : Bool) : Receiver :=
  { state := .assembling
    bytes := if r.bytes.length < 31 then r.bytes ++ [byte] else r.bytes
    count := r.count + 1
    fault := r.fault || stopFault
    idle := 0 }

/-- The byte arrives with no frame in assembly: READY, or resting for 30 microseconds, it begins one; else it is
discarded and restarts the idle time (R142). -/
def Receiver.unassembled (r : Receiver) (byte : Byte) (stopFault : Bool) : Receiver :=
  if r.state = .ready ∨ 30 ≤ r.gap then r.begin byte stopFault else { r with idle := 0 }

/-- A port's receiver changed. -/
def State.changeReceiver (s : State) (p : PortName) (f : Receiver → Receiver) : State :=
  s.setPort p { s.port p with receiver := f (s.port p).receiver }

/-- A byte arrives at a port (R142). A gap above 10 microseconds has ended the frame in assembly before the byte is
looked at. -/
def State.byteArrives (s : State) (p : PortName) (byte : Byte) (stopFault : Bool) : State :=
  match (s.port p).receiver.state with
  | .assembling =>
    if (s.port p).receiver.gap ≤ 10 then s.changeReceiver p fun r => r.append byte stopFault
    else (s.endFrame p).changeReceiver p fun r => r.unassembled byte stopFault
  | .hunting | .ready => s.changeReceiver p fun r => r.unassembled byte stopFault

/-- BYTE_RECEIVED (R142). -/
def execByteReceived (p : PortName) (byte : Byte) (stopFault : Bool) (s : State) : Host.Outcome State Fault Refusal :=
  go (s.whileOperating (s.byteArrives p byte stopFault))

/-- A hunting receiver whose idle time reaches 30 microseconds is READY (R142). -/
def Receiver.rested (r : Receiver) : Receiver := if r.state = .hunting then { r with state := .ready } else r

/-- RECEIVE_READY_EXPIRY (R142). -/
def execReceiveReadyExpiry (p : PortName) (s : State) : Host.Outcome State Fault Refusal :=
  go (s.whileOperating (s.changeReceiver p Receiver.rested))

/-- The frame in assembly, if there is one, ends and is judged (R142, R143). -/
def State.frameEnds (s : State) (p : PortName) : State :=
  match (s.port p).receiver.state with
  | .assembling => s.endFrame p
  | .hunting | .ready => s

/-- FRAME_RECEIVED (R143). -/
def execFrameReceived (p : PortName) (s : State) : Host.Outcome State Fault Refusal :=
  go (s.whileOperating (s.frameEnds p))

/-! ## The requests the ports own (R145, R157) -/

/-- The frame in assembly is a valid LINK_HOLD. -/
def Port.assemblesLinkHold (x : Port) (p : PortName) : Bool :=
  x.receiver.state == .assembling && ((x.receiver.judge p).map Request.kind) == some .linkHold

/-- A LINK_HOLD arrives: link presence, and no further effect (R145). When the frame in assembly is that LINK_HOLD,
the frame ends with it (log 25). -/
def State.linkHeld (s : State) (p : PortName) : State :=
  if (s.port p).assemblesLinkHold p then s.endFrame p else s.arrive p ⟨.linkHold, []⟩

/-- LINK_HOLD (R145). -/
def execLinkHold (p : PortName) (s : State) : Host.Outcome State Fault Refusal := go (s.whileOperating (s.linkHeld p))

/-- A CHECK_TEST served and answered at once, in every start state (R157). -/
def State.serveCheckTest (s : State) (p : PortName) (r : Request) : State :=
  if 8 < r.byte 0 then s.answerCode p .checkTest .badField
  else (s.setPort p { s.port p with checkTest := r.byte 0 }).answerCode p .checkTest .ok

/-- CHECK_TEST: the port serves its outstanding request. -/
def execCheckTest (p : PortName) (s : State) : Host.Outcome State Fault Refusal :=
  match s.served p .checkTest with
  | none => go s
  | some r => go (s.whileOperating (s.serveCheckTest p r))

/-! ## Sending (R151) -/

/-- A frame sent whole: the transmitter rests in its idle gap (R151). -/
def Port.frameSent (x : Port) : Port :=
  match x.transmitter with
  | .sending _ _ => { x with transmitter := .gap }
  | .free | .gap => x

/-- FRAME_SENT (R151). -/
def execFrameSent (p : PortName) (s : State) : Host.Outcome State Fault Refusal :=
  go (s.whileOperating (s.setPort p (s.port p).frameSent))

/-- The idle gap ends: the transmitter is free and takes what waits; a reply taken may let the head be handed on
(R146, R151). -/
def Port.gapEnds (x : Port) : Port :=
  match x.transmitter with
  | .gap => { x with transmitter := .free }.advance
  | .free | .sending _ _ => x

/-- TRANSMIT_GAP_EXPIRY (R151). -/
def execTransmitGapExpiry (p : PortName) (s : State) : Host.Outcome State Fault Refusal :=
  go (s.whileOperating (s.setPort p (s.port p).gapEnds))

end Sys2Proof.Machine
end

