-- ==== Sys2Proof/Machine/Monitors.lean ====
section
/-! DEFINITION. The slip monitors (06_slip_monitors_and_clamps.md): what each does at an estimate publication, at a
capture of its wheel and at the expiry of its lock window, and the requests it serves. -/
namespace Sys2Proof.Machine

/-! ## Slip and bound (R107, R109, R110) -/

/-- The slip of a wheel speed against a reference speed, in pm (R109). -/
def slipOf (wheelSpeed vRef : Nat) : Int :=
  clampInt (-1000) 1000 (truncated (((wheelSpeed : Int) - vRef) * 1000) (max vRef 300 : Nat))

/-- The watched wheel counts VALID at a publication (R109). -/
def State.countsValid (s : State) (m : MonitorName) (r : SampleRecord) : Bool :=
  r.valid.get m.wheel && (s.monitor m).wheelSeen == .valid

/-- The slip a monitor forms at a publication, when it can be formed (R109). -/
def State.slipAt (s : State) (m : MonitorName) (p : Publication) : Option Int :=
  if p.estimate.vRefValid && s.countsValid m p.sample then
    some (slipOf (p.sample.speed.get m.wheel) p.estimate.vRef)
  else none

/-- The reference period of a wheel at a reference speed (R110). -/
def referencePeriod (c : WorkingCopy) (w : Wheel) (vRef : Nat) : Nat :=
  c.circumference w * 100000 / (c.teeth w * vRef)

/-- The hard threshold a monitor's bound is formed with (R110). -/
def State.hardThreshold (s : State) (m : MonitorName) : Int :=
  match m with
  | .rearSpin => s.params.hardSpin s.profile
  | .rearLock | .frontLock => s.params.hardLock s.profile

/-- The bound a monitor renews at a publication (R110). -/
def State.boundAt (s : State) (m : MonitorName) (p : Publication) : Option Nat :=
  if p.estimate.vRefValid && decide (300 ≤ p.estimate.vRef) then
    some (referencePeriod s.params m.wheel p.estimate.vRef * 1000 / (1000 + s.hardThreshold m).toNat)
  else none

/-- The slip lies beyond a monitor's soft threshold (R107). -/
def State.beyondSoft (s : State) (m : MonitorName) (slip : Int) : Bool :=
  match m with
  | .rearSpin => decide (s.params.softSpin s.profile < slip)
  | .rearLock | .frontLock => decide (slip < s.params.softLock s.profile)

/-- The slip lies beyond a monitor's hard threshold (R107). -/
def State.beyondHard (s : State) (m : MonitorName) (slip : Int) : Bool :=
  match m with
  | .rearSpin => decide (s.hardThreshold m < slip)
  | .rearLock | .frontLock => decide (slip < s.hardThreshold m)

/-- The slip lies inside the soft thresholds (R107). -/
def State.insideSoft (s : State) (slip : Int) : Bool :=
  decide (s.params.softLock s.profile ≤ slip) && decide (slip ≤ s.params.softSpin s.profile)

/-- The IDLE condition of a monitor at a publication (R111). -/
def State.idleCondition (s : State) (m : MonitorName) (p : Publication) : Bool :=
  !p.estimate.vRefValid || decide (p.estimate.vRef < 300) || !s.countsValid m p.sample

/-! ## The synchronous path (R111 to R118, R121) -/

/-- ARMED at a publication whose IDLE condition does not hold; an IDLE monitor arms and is handled likewise
(R111, R112). -/
def State.armedPublication (s : State) (m : MonitorName) (slip : Int) (target : Word16) : State :=
  if s.beyondHard m slip then s.triggerHard m .syncHard target
  else if s.beyondSoft m slip then
    if s.params.delay s.profile = 0 then s.triggerSoft m target
    else s.setMonitor m { s.monitor m with state := .delaying, count := s.params.delay s.profile }
  else s.setMonitor m { s.monitor m with state := .armed }

/-- DELAYING at a publication whose IDLE condition does not hold (R113). -/
def State.delayingPublication (s : State) (m : MonitorName) (slip : Int) (target : Word16) : State :=
  if s.beyondHard m slip then s.triggerHard m .syncHard target
  else if s.beyondSoft m slip then
    if (s.monitor m).count ≤ 1 then s.triggerSoft m target
    else s.setMonitor m { s.monitor m with count := (s.monitor m).count - 1 }
  else s.setMonitor m { s.monitor m with state := .armed, count := 0 }

/-- SOFT at a publication whose IDLE condition does not hold (R115). -/
def State.softPublication (s : State) (m : MonitorName) (slip : Int) (target : Word16) : State :=
  if s.beyondHard m slip then s.triggerHard m .syncHard target
  else if !(s.monitor m).grace && s.beyondSoft m slip then s.triggerHard m .syncHard target
  else if (s.monitor m).count ≤ 1 then s.blankAfterClamp m
  else s.setMonitor m { s.monitor m with grace := false, count := (s.monitor m).count - 1 }

/-- The within-band count after a publication (R118). -/
def State.withinBand (s : State) (m : MonitorName) (slip : Option Int) : Nat :=
  match slip with
  | some x => if s.insideSoft x then saturatingSucc 1000 (s.monitor m).within else 0
  | none => 0

/-- HARD at a publication, whatever the IDLE condition (R111, R118). -/
def State.hardPublication (s : State) (m : MonitorName) (slip : Option Int) : State :=
  if 0 < s.params.hardAuto ∧ s.params.hardAuto ≤ s.withinBand m slip then s.blankAfterClamp m
  else s.setMonitor m { s.monitor m with within := s.withinBand m slip }

/-- BLANKING at a publication whose IDLE condition does not hold (R121). -/
def State.blankingPublication (s : State) (m : MonitorName) (slip : Int) (target : Word16) : State :=
  if s.beyondHard m slip then s.triggerHard m .syncHard target
  else if (s.monitor m).count ≤ 1 then s.setMonitor m { s.monitor m with state := .armed, count := 0 }
  else s.setMonitor m { s.monitor m with count := (s.monitor m).count - 1 }

/-- A monitor's act at a publication according to its state, its slip and bound already formed. Where the IDLE
condition does not hold the slip has been formed, so the value in its absence is never used. -/
def State.actOnPublication (s : State) (m : MonitorName) (p : Publication) : State :=
  let slip := ((s.monitor m).lastSlip).getD 0
  match (s.monitor m).state with
  | .hard => s.hardPublication m (s.monitor m).lastSlip
  | .idle => if s.idleCondition m p then s else s.armedPublication m slip p.estimate.epoch
  | .armed => if s.idleCondition m p then s.idleMonitor m else s.armedPublication m slip p.estimate.epoch
  | .delaying => if s.idleCondition m p then s.idleMonitor m else s.delayingPublication m slip p.estimate.epoch
  | .soft => if s.idleCondition m p then s.idleMonitor m else s.softPublication m slip p.estimate.epoch
  | .blanking => if s.idleCondition m p then s.idleMonitor m else s.blankingPublication m slip p.estimate.epoch

/-- A monitor takes an estimate publication: it forms its slip and bound, then acts (R109 to R111). -/
def State.monitorPublication (s : State) (p : Publication) (m : MonitorName) : State :=
  (s.setMonitor m { s.monitor m with lastSlip := s.slipAt m p, bound := s.boundAt m p }).actOnPublication m p

/-- The three monitors take an estimate publication; they share no state, and the order is the model's (log 9). -/
def State.monitorsPublication (s : State) (p : Publication) : State :=
  ((s.monitorPublication p .rearSpin).monitorPublication p .rearLock).monitorPublication p .frontLock

/-! ## The immediate path (R119, R120) -/

/-- The capture's period lies beyond the monitor's bound (R107). -/
def Monitor.periodBeyond (x : Monitor) (m : MonitorName) (period : Option Nat) : Bool :=
  match m, x.bound, period with
  | .rearSpin, some b, some t => decide (t < b)
  | .rearLock, some b, some t => decide (b < t)
  | .frontLock, some b, some t => decide (b < t)
  | _, _, _ => false

/-- The lock window after a capture with the wheel VALID: afresh from the edge, or stopped; REAR_SPIN has none
(R120). -/
def Monitor.windowAfter (x : Monitor) (m : MonitorName) (edge : Nat) : Option Nat :=
  match m with
  | .rearSpin => x.window
  | .rearLock | .frontLock => x.bound.map fun b => edge + b

/-- A monitor takes a capture of its wheel: the edge time, the period if any, the wheel's input state (R119, R120). -/
def State.monitorCapture (s : State) (edge : Nat) (period : Option Nat) (seen : WheelState) (m : MonitorName) :
    State :=
  match seen with
  | .invalid =>
    let t := s.setMonitor m { s.monitor m with wheelSeen := .invalid, window := none }
    if (s.monitor m).watching then t.idleMonitor m else t
  | .valid =>
    let t := s.setMonitor m { s.monitor m with
      wheelSeen := .valid, window := (s.monitor m).windowAfter m edge }
    if (s.monitor m).watching && (s.monitor m).periodBeyond m period then t.triggerHard m .immediate s.nextEpoch
    else t

/-- A capture handed on to the monitors of its wheel (R14). -/
def State.handOnCapture (s : State) (w : Wheel) (edge : Nat) (period : Option Nat) (seen : WheelState) : State :=
  match w with
  | .front => s.monitorCapture edge period seen .frontLock
  | .rear => (s.monitorCapture edge period seen .rearSpin).monitorCapture edge period seen .rearLock

/-- A running lock window expires (R120). -/
def State.lockWindowExpires (s : State) (m : MonitorName) : State :=
  match (s.monitor m).window with
  | none => s
  | some _ =>
    let t := s.setMonitor m { s.monitor m with window := none }
    if (s.monitor m).watching then t.triggerHard m .immediate s.nextEpoch else t

/-- LOCK_WINDOW_EXPIRY (R120). -/
def execLockWindowExpiry (m : MonitorName) (s : State) : Host.Outcome State Fault Refusal :=
  go (s.whileOperating (s.lockWindowExpires m))

/-! ## Requests served by the monitors (R123, R124) -/

/-- The answer to a CLAMP_CLEAR from a port, in the order of R123's checks. -/
def State.clampClearCode (s : State) (p : PortName) (r : Request) : ReplyCode :=
  if !s.running then .notReady
  else
    match monitorOfCode (r.byte 0) with
    | none => .badField
    | some m =>
      if !m.clearedFrom p then .notPermitted
      else if (s.monitor m).state ≠ .hard then .notHeld
      else
        match (s.monitor m).lastSlip with
        | some x => if s.insideSoft x then .ok else .slipPresent
        | none => .slipPresent

/-- What a CLAMP_CLEAR answered OK does: the named monitor leaves HARD into BLANKING (R123), its within-band count at 0
by the model's choice (log 44). -/
def State.clampCleared (s : State) (r : Request) : State :=
  match monitorOfCode (r.byte 0) with
  | none => s
  | some m => s.blankAfterClamp m

/-- A CLAMP_CLEAR served and answered at once (R123). -/
def State.serveClampClear (s : State) (p : PortName) (r : Request) : State :=
  if s.clampClearCode p r = .ok then (s.clampCleared r).answerCode p .clampClear .ok
  else s.answerCode p .clampClear (s.clampClearCode p r)

/-- CLAMP_CLEAR: the monitors serve the port's outstanding request. -/
def execClampClear (p : PortName) (s : State) : Host.Outcome State Fault Refusal :=
  match s.served p .clampClear with
  | none => go s
  | some r => go (s.whileOperating (s.serveClampClear p r))

/-- REAR_SPIN after a SHIFT_NOTICE in RUNNING (R124). -/
def State.shiftNoticed (s : State) : State :=
  match (s.monitor .rearSpin).state with
  | .armed | .delaying =>
    s.setMonitor .rearSpin { s.monitor .rearSpin with state := .blanking, count := s.params.shiftBlank }
  | .idle | .soft | .hard | .blanking => s

/-- A SHIFT_NOTICE served and answered at once (R124). -/
def State.serveShiftNotice (s : State) : State :=
  if s.running then s.shiftNoticed.answerCode .e .shiftNotice .ok else s.answerCode .e .shiftNotice .notReady

/-- SHIFT_NOTICE: the monitors serve Port E's outstanding request. -/
def execShiftNotice (s : State) : Host.Outcome State Fault Refusal :=
  match s.served .e .shiftNotice with
  | none => go s
  | some _ => go (s.whileOperating s.serveShiftNotice)

end Sys2Proof.Machine
end

