-- ==== Sys2Proof/Machine/Sensing.lean ====
section
/-! DEFINITION. The sensor interface (01_sensor_inputs.md): the inertial transaction, the wheel tooth inputs and the
reference speed, with the cycle timer's expiry that starts each transaction (R20). -/
namespace Sys2Proof.Machine

/-! ## The cycle timer's expiry (R20, R3, R149) -/

/-- An UP port's silence count rises at an expiry; at 12 the port is LOST (R149). -/
def Port.silenceRises (x : Port) : Port :=
  if x.state = .up then
    if 12 ≤ x.silence + 1 then { x with silence := 12, state := .lost } else { x with silence := x.silence + 1 }
  else x

/-- One port takes an expiry; one that goes LOST freezes its grants, and Port C's loss closes the session
(R100, R149, R150, R169). -/
def State.silenceRises (s : State) (p : PortName) : State :=
  let t := s.setPort p (s.port p).silenceRises
  if (s.port p).state = .up ∧ (t.port p).state = .lost then
    let t := t.freezeGrants p
    if p = .c then t.closeSession else t
  else t

/-- What one inertial transaction clocks out: the block read command 0x3C, with IMU_MISO ignored, then 16 bytes of
IMU_MOSI held low while the 16 bytes of the block are clocked in (R3, R201). -/
def blockCommand : List Byte := 0x3C :: List.replicate 16 0x00

/-- The cycle timer expires: it counts from 0 again, one inertial transaction starts, and each UP port's silence
count rises (R3, R20, R149). A timer that does not run does not expire. -/
def State.cycleTimerExpires (s : State) : State :=
  match s.leu.cycleTimer with
  | none => s
  | some _ =>
    let t := s.setLeu { s.leu with cycleTimer := some 0 }
    let t := t.setSif { t.sif with transaction := true, mosi := blockCommand }
    ((t.silenceRises .e).silenceRises .b).silenceRises .c

/-- CYCLE_TIMER_EXPIRY (R20). -/
def execCycleTimerExpiry (s : State) : Host.Outcome State Fault Refusal := go (s.whileOperating s.cycleTimerExpires)

/-- SILENCE_COUNT_EXPIRY: the cycle timer expiry at which a port's silence count reaches 12 and the port becomes LOST
(R149). -/
def execSilenceCountExpiry (p : PortName) (s : State) : Host.Outcome State Fault Refusal :=
  let t := s.whileOperating s.cycleTimerExpires
  occurring ((s.port p).state == .up && (t.port p).state == .lost) t s

/-! ## The transaction's completion (R4 to R7, R12, R15, R16) -/

/-- The silence test of a wheel against the other (R12). -/
def WheelInput.silenceTest (x other : WheelInput) : WheelInput :=
  if x.state = .valid ∧ x.lastEdge = none ∧ other.state = .valid ∧ 1000 < other.speed then
    { x with state := .invalid, plausible := 0 }
  else x

/-- Both wheels after the silence test. -/
def silenceTested (x : PerWheel WheelInput) : PerWheel WheelInput :=
  ⟨x.front.silenceTest x.rear, x.rear.silenceTest x.front⟩

/-- v_ref formed from the wheels that are VALID, or kept when neither is (R15, R16). -/
def referenceSpeed (x : PerWheel WheelInput) (aF : Int) (previous : Nat) : Nat :=
  match x.front.state, x.rear.state with
  | .valid, .valid => if 0 ≤ aF then x.front.speed else max x.front.speed x.rear.speed
  | .valid, .invalid => x.front.speed
  | .invalid, .valid => x.rear.speed
  | .invalid, .invalid => previous

/-- v_ref_valid (R16). -/
def referenceValid (x : PerWheel WheelInput) : Bool := x.front.state == .valid || x.rear.state == .valid

/-- The inertial fields of the sample record after a completion (R5, R6). -/
def Sif.inertialAfter (x : Sif) (block : Vector Byte 16) : Inertial :=
  if blockValid block x.lastValid then blockInertial block else x.lastValid.getD .zero

/-- The sensor interface after a completion (R4 to R7). -/
def Sif.complete (x : Sif) (block : Vector Byte 16) (aF : Int) : Sif :=
  let valid := blockValid block x.lastValid
  let wheels := silenceTested x.wheels
  let vRef := referenceSpeed wheels aF x.vRef
  { sample :=
      { inertial := x.inertialAfter block
        imuValid := valid
        speed := ⟨wheels.front.speed, wheels.rear.speed⟩
        valid := ⟨wheels.front.state == .valid, wheels.rear.state == .valid⟩
        vRef := vRef
        vRefValid := referenceValid wheels }
    lastValid := if valid then some (blockInertial block) else x.lastValid
    invalidRun := if valid then 0 else saturatingSucc 255 x.invalidRun
    wheels := wheels
    vRef := vRef
    vRefValid := referenceValid wheels
    transaction := false
    mosi := [] }

/-- SENSOR_WAIT ends and the part is in RUNNING (R189). -/
def State.endSensorWait (s : State) : State := s.setSup { s.sup with start := .running, sensorWait := none }

/-- The completion as an event at the supervisor, the session and the LEU (R7, R21, R39, R169, R189): a valid sample
ends SENSOR_WAIT, a v_ref above 0 closes the session, and the handover starts one computation, which R39 governs when
its sample is invalid and was completed in SENSOR_WAIT. -/
def State.sampleCompleted (s : State) : State :=
  let waiting := s.sup.start == .sensorWait
  let t := if waiting && s.sif.sample.imuValid then s.endSensorWait else s
  let t := if 0 < s.sif.vRef then t.closeSession else t
  t.setLeu { t.leu with work := if waiting && !s.sif.sample.imuValid then .sensorWait else .ordinary }

/-- The transaction in flight completes (R7). -/
def State.transactionCompletes (s : State) (block : Vector Byte 16) : State :=
  if s.sif.transaction then (s.setSif (s.sif.complete block s.leu.aF)).sampleCompleted else s

/-- TRANSACTION_COMPLETION (R7). -/
def execTransactionCompletion (block : Vector Byte 16) (s : State) : Host.Outcome State Fault Refusal :=
  go (s.whileOperating (s.transactionCompletes block))

/-! ## Tooth edges (R8 to R14) -/

/-- A wheel's speed from a period (R9). -/
def wheelSpeed (c : WorkingCopy) (w : Wheel) (period : Nat) : Nat :=
  clampNat 0 9000 (c.circumference w * 100000 / (c.teeth w * period))

/-- The period a capture yields: none without a time of last edge (R8). -/
def WheelInput.periodAt (x : WheelInput) (edge : Nat) : Option Nat := x.lastEdge.map fun t => edge - t

/-- A wheel after a plausible period (R9, R13). A count that already stands at T or above, as one built up in LOADING
under the built-in T may when the load brings a smaller one, makes the wheel VALID at this capture: the model's choice
(log 35). -/
def WheelInput.plausibleTooth (x : WheelInput) (c : WorkingCopy) (w : Wheel) (period : Nat) : WheelInput :=
  let y := { x with period := some period, speed := wheelSpeed c w period }
  match x.state with
  | .valid => y
  | .invalid =>
    if c.teeth w ≤ x.plausible + 1 then { y with state := .valid, plausible := 0 }
    else { y with plausible := x.plausible + 1 }

/-- A wheel after an implausible period (R11). -/
def WheelInput.implausibleTooth (x : WheelInput) : WheelInput := { x with state := .invalid, plausible := 0 }

/-- A wheel after a capture (R8, R9, R11, R13). -/
def WheelInput.capture (x : WheelInput) (c : WorkingCopy) (w : Wheel) (edge : Nat) : WheelInput :=
  let y := { x with lastEdge := some edge, silence := some 0 }
  match x.periodAt edge with
  | none => y
  | some p => if 20 ≤ p then y.plausibleTooth c w p else y.implausibleTooth

/-- The period handed on with a capture: none, or a plausible value (R14). -/
def WheelInput.handedPeriod (x : WheelInput) (edge : Nat) : Option Nat := (x.periodAt edge).filter fun p => 20 ≤ p

/-- A rising edge on a wheel input is captured and handed on to the wheel's monitors (R8, R14). -/
def State.captureTooth (s : State) (w : Wheel) (edge : Nat) : State :=
  let x := (s.wheel w).capture s.params w edge
  (s.setWheel w x).handOnCapture w edge ((s.wheel w).handedPeriod edge) x.state

/-- TOOTH_CAPTURE (R8). -/
def execToothCapture (w : Wheel) (edge : Nat) (s : State) : Host.Outcome State Fault Refusal :=
  go (s.whileOperating (s.captureTooth w edge))

/-- WHEEL_REVALIDATED: the capture at which an INVALID wheel becomes VALID (R13). -/
def execWheelRevalidated (w : Wheel) (edge : Nat) (s : State) : Host.Outcome State Fault Refusal :=
  let t := s.whileOperating (s.captureTooth w edge)
  occurring ((s.wheel w).state == .invalid && (t.wheel w).state == .valid) t s

/-- A wheel whose silence timer expires; without a time of last edge none runs (R10). -/
def WheelInput.silenced (x : WheelInput) : WheelInput :=
  if x.lastEdge.isSome then { x with lastEdge := none, period := none, speed := 0, silence := none, plausible := 0 }
  else x

/-- SILENCE_EXPIRY (R10). -/
def execSilenceExpiry (w : Wheel) (s : State) : Host.Outcome State Fault Refusal :=
  go (s.whileOperating (s.setWheel w (s.wheel w).silenced))

end Sys2Proof.Machine
end

