-- ==== Sys2Proof/Machine/Estimate.lean ====
section
/-! DEFINITION. The lean estimation unit (02_the_estimate_cycle_and_the_lean_estimate.md): one computation from the
sample record to the published estimate record (R22), and the publication as an event at the other blocks (R21). -/
namespace Sys2Proof.Machine

/-! ## Stage 1: the filtered longitudinal acceleration (R24) -/

/-- a_f after one step toward ax (R24). -/
def filterStep (aF ax : Int) : Int := aF + truncated (ax - aF) 8

/-! ## Stage 2: the reference (R26 to R28) -/

/-- The magnitude of the turning rate (R27). -/
def turningRate (yaw pitch : Int) : Nat := isqrt (yaw.natAbs * yaw.natAbs + pitch.natAbs * pitch.natAbs)

/-- The magnitude of the ratio q, in pm (R27). -/
def yawRatio (vRef rate : Nat) : Nat := min 1732 ((vRef * rate * 2986 + 8388608) / 16777216)

/-- The YAW reference (R27). -/
def yawReference (vRef : Nat) (yaw pitch : Int) : Int :=
  if yaw < 0 then -(arctangentTable (yawRatio vRef (turningRate yaw pitch)) : Int)
  else (arctangentTable (yawRatio vRef (turningRate yaw pitch)) : Int)

/-- The GRAVITY reference (R28). -/
def gravityReference (ay az mountRoll : Int) : Int :=
  clampInt (-6000) 6000
    (arctangentSigned (clampInt (-1732) 1732 (truncated (ay * 1000) (clampInt 500 3000 az))) - mountRoll)

/-- The kind of reference a sample record gives (R26). -/
def referenceKind (r : SampleRecord) : RefKind :=
  if r.vRefValid then (if 500 ≤ r.vRef then .yaw else .gravity) else .none

/-- The reference lean (R26 to R28). -/
def referenceLean (c : WorkingCopy) (r : SampleRecord) : Int :=
  match referenceKind r with
  | .yaw => yawReference r.vRef r.inertial.yaw r.inertial.pitch
  | .gravity => gravityReference r.inertial.ay r.inertial.az c.mountRoll
  | .none => 0

/-! ## Stage 3: the confidence state (R31 to R37) -/

/-- A good publication (R31). -/
def SampleRecord.good (r : SampleRecord) : Bool := r.imuValid && r.vRefValid

/-- The good-cycle count after its increment, in a state that does not change (R31). -/
def Leu.goodAfter (x : Leu) (r : SampleRecord) : Nat := if r.good then saturatingSucc 250 x.good else 0

/-- The coast count after its increment (R31). -/
def Leu.coastAfter (x : Leu) : Nat := if x.conf = .coasting then x.coast + 1 else x.coast

/-- The state decided in stage 3 (R32 to R37). -/
def Leu.decide (x : Leu) (r : SampleRecord) (invalidRun : Nat) : Confidence :=
  match x.conf with
  | .unset => if r.good then .settling else .unset
  | .settling =>
    if 3 ≤ invalidRun then .unset
    else if r.good && Nat.ble 250 (x.goodAfter r) then .tracking
    else .settling
  | .tracking =>
    if 3 ≤ invalidRun then .coasting
    else if r.imuValid && !r.vRefValid then .drifting
    else .tracking
  | .drifting =>
    if 3 ≤ invalidRun then .coasting
    else if r.vRefValid then .settling
    else .drifting
  | .coasting =>
    if 3 ≤ x.goodAfter r then .settling
    else if 125 ≤ x.coastAfter then .lost
    else .coasting
  | .lost => if 3 ≤ x.goodAfter r then .settling else .lost

/-! ## Stage 4: the accumulator (R25, R29, R30) -/

/-- The gain k (R29). -/
def gain (decided : Confidence) (kind : RefKind) (roll : Int) : Int :=
  match kind with
  | .none => 0
  | .yaw | .gravity =>
    match decided with
    | .settling => 64
    | .tracking => if roll.natAbs ≤ 2000 then 8 else 2
    | .unset | .drifting | .coasting | .lost => 0

/-- The prediction (R25). -/
def prediction (acc roll : Int) : Int := acc + roll * 4

/-- The prediction blended toward the reference (R29). -/
def blend (prediction refLean k : Int) : Int := prediction + truncated ((refLean * 1000 - prediction) * k) 1024

/-- The accumulator's range (R30). -/
def clampAcc (x : Int) : Int := clampInt (-6000000) 6000000 x

/-- SETTLING entered from UNSET or LOST initialises the accumulator from the reference (R32, R37). -/
def initialises (before decided : Confidence) : Bool :=
  decided == .settling && (before == .unset || before == .lost)

/-- The accumulator before the clamp, where the decided state computes one; none where it is 0 or held (R25, R32,
R36, R37). -/
def Leu.unclamped (x : Leu) (decided : Confidence) (r : SampleRecord) (refLean : Int) : Option Int :=
  match decided with
  | .settling | .tracking | .drifting =>
    if initialises x.conf decided then some (refLean * 1000)
    else some (blend (prediction x.acc r.inertial.roll) refLean (gain decided (referenceKind r) r.inertial.roll))
  | .unset | .coasting | .lost => none

/-- The accumulator after stage 4 (R25, R29, R30, R32, R36, R37). -/
def Leu.accAfter (x : Leu) (decided : Confidence) (r : SampleRecord) (refLean : Int) : Int :=
  match x.unclamped decided r refLean with
  | some a => clampAcc a
  | none => if decided = .unset then 0 else x.acc

/-- The clamp acted at this computation (R30). -/
def Leu.clampActed (x : Leu) (decided : Confidence) (r : SampleRecord) (refLean : Int) : Bool :=
  match x.unclamped decided r refLean with
  | some a => clampAcc a != a
  | none => false

/-! ## Stages 5 and 6: U and the DRIFTING limit (R35, R38) -/

/-- U after stage 5 (R38). -/
def Leu.uncertaintyAfter (x : Leu) (decided : Confidence) (r : SampleRecord) : Nat :=
  match decided with
  | .unset | .lost => 6000
  | .settling =>
    if x.conf = .settling then (if r.good then max 500 (x.u - 25) else x.u)
    else if x.conf = .lost then 3000
    else max 500 x.u
  | .tracking => 100
  | .drifting => x.u + 5
  | .coasting => min 3000 (x.u + 25)

/-- The state after stage 6: DRIFTING whose U has reached 3000 becomes LOST (R35). -/
def Leu.settled (x : Leu) (decided : Confidence) (r : SampleRecord) : Confidence :=
  if decided = .drifting ∧ 3000 ≤ x.uncertaintyAfter .drifting r then .lost else decided

/-- U after stage 6 (R35, R38). -/
def Leu.finalUncertainty (x : Leu) (decided : Confidence) (r : SampleRecord) : Nat :=
  if x.settled decided r = .lost then 6000 else x.uncertaintyAfter decided r

/-! ## The whole computation (R22) -/

/-- The reported lean: the accumulator divided by 1000, rounded (R30). -/
def reportedLean (acc : Int) : Int := rounded acc 1000

/-- LEAN_SAT of the record: the clamp acted, and the published state is not one in which it is false (R30; log 12). -/
def leanSat (final : Confidence) (acted : Bool) : Bool :=
  match final with
  | .unset | .coasting | .lost => false
  | .settling | .tracking | .drifting => acted

/-- The LEU after an ordinary computation, its record apart (R22 to R38). -/
def Leu.compute (x : Leu) (c : WorkingCopy) (r : SampleRecord) (invalidRun : Nat) : Leu :=
  let decided := x.decide r invalidRun
  let final := x.settled decided r
  { x with
    aF := filterStep x.aF r.inertial.ax
    conf := final
    good := if final = x.conf then x.goodAfter r else 0
    coast := if final = x.conf then x.coastAfter else 0
    acc := x.accAfter decided r (referenceLean c r)
    u := x.finalUncertainty decided r
    epoch := x.epoch + 1
    work := .idle }

/-- The LEU after a computation under R39: only a_f and the epoch move. -/
def Leu.computeWaiting (x : Leu) (r : SampleRecord) : Leu :=
  { x with aF := filterStep x.aF r.inertial.ax, epoch := x.epoch + 1, work := .idle }

/-- The estimate record of an LEU whose computation is done (02, The published estimate record). -/
def Leu.record (x : Leu) (c : WorkingCopy) (r : SampleRecord) (sat : Bool) : EstimateRecord where
  epoch := x.epoch
  confidence := x.conf
  lean := reportedLean x.acc
  acc := x.acc
  u := x.u
  refKind := referenceKind r
  refLean := referenceLean c r
  aF := x.aF
  vRef := r.vRef
  vRefValid := r.vRefValid
  leanSat := sat

/-- The LEU after its publication: the latest estimate record is replaced whole, with its sample record (R21). -/
def Leu.publish (x : Leu) (c : WorkingCopy) (r : SampleRecord) (invalidRun : Nat) : Leu :=
  match x.work with
  | .idle => x
  | .sensorWait =>
    let y := x.computeWaiting r
    { y with published := some ⟨y.record c r false, r⟩ }
  | .ordinary =>
    let y := x.compute c r invalidRun
    let sat := leanSat y.conf (x.clampActed (x.decide r invalidRun) r (referenceLean c r))
    { y with published := some ⟨y.record c r sat, r⟩ }

/-- The computation in flight publishes; the publication starts a budget computation at the GBU and is taken by the
three monitors (R21, R51, R111). The monitors take it before that computation's friction stage and publication, and a
clamp end (R122) so before the re-evaluation of the same publication: of the orders R66, R68 and R122 allow, the model's
choice (log 37). -/
def State.publishEstimate (s : State) : State :=
  if s.leu.work = .idle then s
  else
    let t := s.setLeu (s.leu.publish s.params s.sif.sample s.sif.invalidRun)
    let t := t.setGbu { t.gbu with working := true, read := none }
    match t.leu.published with
    | none => t
    | some p => t.monitorsPublication p

/-- The publication as it happens while the part operates. -/
def State.estimateStep (s : State) : State := s.whileOperating s.publishEstimate

/-- ESTIMATE_PUBLICATION (R22). -/
def execEstimatePublication (s : State) : Host.Outcome State Fault Refusal := go s.estimateStep

/-- COAST_COUNT_EXPIRY: the publication at which the coast count reaches 125 and COASTING becomes LOST (R36). -/
def execCoastCountExpiry (s : State) : Host.Outcome State Fault Refusal :=
  occurring (s.leu.conf == .coasting && s.estimateStep.leu.conf == .lost) s.estimateStep s

/-- SETTLING_GOOD_COUNT_REACHED: the publication at which the good-cycle count in SETTLING reaches 250 and the state
becomes TRACKING (R33). -/
def execSettlingGoodCountReached (s : State) : Host.Outcome State Fault Refusal :=
  occurring (s.leu.conf == .settling && s.estimateStep.leu.conf == .tracking) s.estimateStep s

/-- DELAY_COUNT_EXPIRY: the publication at which a monitor's DELAYING count reaches 0 and it triggers into SOFT
(R113). -/
def execDelayCountExpiry (m : MonitorName) (s : State) : Host.Outcome State Fault Refusal :=
  occurring ((s.monitor m).state == .delaying && (s.estimateStep.monitor m).state == .soft) s.estimateStep s

/-- SOFT_HOLD_EXPIRY: the publication at which a monitor's hold count reaches 0 and it enters BLANKING, ending its
clamp (R115). -/
def execSoftHoldExpiry (m : MonitorName) (s : State) : Host.Outcome State Fault Refusal :=
  occurring ((s.monitor m).state == .soft && (s.estimateStep.monitor m).state == .blanking) s.estimateStep s

/-- BLANKING_EXPIRY: the publication at which a monitor's blanking count reaches 0 and it becomes ARMED (R121). -/
def execBlankingExpiry (m : MonitorName) (s : State) : Host.Outcome State Fault Refusal :=
  occurring ((s.monitor m).state == .blanking && (s.estimateStep.monitor m).state == .armed) s.estimateStep s

/-- HARD_AUTO_END: the publication at which a monitor's within-band count reaches hard_auto and HARD ends into
BLANKING (R118). -/
def execHardAutoEnd (m : MonitorName) (s : State) : Host.Outcome State Fault Refusal :=
  occurring ((s.monitor m).state == .hard && (s.estimateStep.monitor m).state == .blanking) s.estimateStep s

end Sys2Proof.Machine
end

