-- ==== Sys2Proof/Machine/Budget.lean ====
section
/-! DEFINITION. The grip budget unit and the friction stage of the friction learning unit
(03_wheel_load_and_the_grip_budget.md, 04_surface_friction_learning.md): one budget computation (R51), and
PROFILE_SET. -/
namespace Sys2Proof.Machine

/-! ## The pending-profile stage (R50) -/

/-- The (E, REAR, DRIVE) grant exists with granted force above 0 (R49, R50). -/
def State.driveHolds (s : State) : Bool :=
  match s.grant .eRearDrive with
  | some g => decide (0 < g.granted)
  | none => false

/-- The ride settings after the pending-profile stage (R50). -/
def RideSettings.stage (r : RideSettings) (vRef : Nat) (driveHolds : Bool) : RideSettings :=
  match r.pending with
  | none => r
  | some q =>
    match q.kind with
    | .next => { r with profile := q.profile, pending := none }
    | .deferred => if vRef = 0 || !driveHolds then { r with profile := q.profile, pending := none } else r

/-! ## Loads (R52 to R54) -/

/-- The front load fraction (R52). -/
def frontFraction (staticFront hwb : Nat) (aF : Int) : Nat :=
  (clampInt 50 950 ((staticFront : Int) - truncated (aF * hwb) 1000)).toNat

/-- The total vertical load W (R53). -/
def totalLoad (mass : Nat) (az : Int) : Nat := mass * (clampInt 500 3000 az).toNat * 9807 / 1000000

/-- The wheel loads of a total and a front fraction (R54). -/
def wheelLoads (total frontPm : Nat) : WheelLoads :=
  ⟨frontPm, total, ⟨total * frontPm / 1000, total - total * frontPm / 1000⟩⟩

/-- The wheel loads of a class for an estimate and its sample (R52 to R54). -/
def loadsFor (c : WorkingCopy) (k : LoadClass) (p : Publication) : WheelLoads :=
  wheelLoads (totalLoad (c.mass k) p.sample.inertial.az)
    (frontFraction (c.staticFront k) (c.hwb k) p.estimate.aF)

/-! ## Lateral demand, capacity, reserve, budgets (R55 to R60) -/

/-- The lateral demand (R55). -/
def lateralDemand (lean : Int) (u : Nat) : Nat := min 1732 (tangentTable (min (lean.natAbs + u) 6000))

/-- The longitudinal capacity (R57). -/
def longitudinalCapacity (mu lat : Nat) : Nat := if lat < mu then isqrt (mu * mu - lat * lat) else 0

/-- The usable fraction b (R58). -/
def usableFraction (long reserve : Nat) : Nat := long * (1000 - reserve) / 1000

/-- The floor states (R60). -/
def floorState (c : Confidence) : Bool := c == .unset || c == .lost

/-- A wheel's budget (R59, R60). -/
def wheelBudget (load b floorPm : Nat) (floor : Bool) : Nat :=
  if floor then load * floorPm / 1000 else min 20000 (load * b / 1000)

/-- A wheel's budget record (R61). -/
def budgetRecord (c : WorkingCopy) (profile : Profile) (e : EstimateRecord) (mu : Nat) (w : Wheel) (load : Nat) :
    BudgetRecord where
  wheel := w
  load := load
  lat := lateralDemand e.lean e.u
  mu := mu
  long := longitudinalCapacity mu (lateralDemand e.lean e.u)
  b := usableFraction (longitudinalCapacity mu (lateralDemand e.lean e.u)) (c.reserve profile)
  budget := wheelBudget load
    (usableFraction (longitudinalCapacity mu (lateralDemand e.lean e.u)) (c.reserve profile)) c.floorPm
    (floorState e.confidence)
  epoch := e.epoch
  floor := floorState e.confidence

/-! ## The friction stage (R65, R66, R71, R72) -/

/-- An event one budget computation older (R71). -/
def SlipEvent.aged (e : SlipEvent) : SlipEvent := { e with age := saturatingSucc 65535 e.age }

/-- The events that remain at the friction stage: aged, less those whose contribution has reached the nominal (R71). -/
def remainingEvents (recover muNom : Nat) (events : List SlipEvent) : List SlipEvent :=
  (events.map SlipEvent.aged).filter fun e => decide (e.contribution recover < muNom)

/-- The learned friction of a list against a nominal (R72). -/
def learnedFriction (recover muNom : Nat) (events : List SlipEvent) : Nat :=
  events.foldl (fun x e => min x (e.contribution recover)) muNom

/-- Every report count one computation older (R66). -/
def agedReports (r : PerKey Nat) : PerKey Nat :=
  ⟨r.eRearDrive - 1, r.eRearBrake - 1, r.bFrontBrake - 1, r.bRearBrake - 1⟩

/-- The FLU after the friction stage of a computation (R71). -/
def Flu.frictionStage (x : Flu) (recover muNom : Nat) : Flu :=
  { x with
    events := remainingEvents recover muNom x.events
    reports := agedReports x.reports
    learned := learnedFriction recover muNom (remainingEvents recover muNom x.events) }

/-- The FLU after a budget publication: the pending triggers whose target epoch it has are completed, in order of
arrival, and leave (R68, R69, R70). -/
def Flu.completeTriggers (x : Flu) (recover : Nat) (p : BudgetPublication) : Flu :=
  { x with
    events :=
      (x.triggers.filter fun t => t.target == p.estimate.epoch).foldl (completeTrigger recover p) x.events
    triggers := x.triggers.filter fun t => t.target != p.estimate.epoch }

/-! ## The computation (R51, R61) -/

/-- The budget publication of a computation (R61). -/
def budgetPublicationOf (c : WorkingCopy) (profile : Profile) (p : Publication) (loads : WheelLoads) (mu : Nat) :
    BudgetPublication where
  record :=
    ⟨budgetRecord c profile p.estimate mu .front loads.load.front,
      budgetRecord c profile p.estimate mu .rear loads.load.rear⟩
  profile := profile
  estimate := p.estimate

/-- The ride settings the computation in flight uses: those it has read, or as they stand while no PROFILE_SET has been
served after its read (R51). -/
def Gbu.settingsRead (x : Gbu) : RideSettings := x.read.getD x.settings

/-- The ride settings after a computation that has used `used` and staged them into `staged`: the profile it has brought
into force, and the pending profile it has left, but for one accepted after its read, which the next computation sees
(R50, R51; log 10). Class and policy stand as they were set. -/
def Gbu.settingsStaged (x : Gbu) (used staged : RideSettings) : RideSettings :=
  { x.settings with
    profile := staged.profile
    pending := if x.settings.pending = used.pending then staged.pending else x.settings.pending }

/-- The GBU after a computation with the ride settings it has staged: the settings, the loads, the publication (R50, R54,
R61). -/
def State.budgetComputed (s : State) (p : Publication) (settings : RideSettings) (mu : Nat) : Gbu where
  settings := s.gbu.settingsStaged s.gbu.settingsRead settings
  loads := some (loadsFor s.params settings.cls p)
  publication :=
    some (budgetPublicationOf s.params settings.profile p (loadsFor s.params settings.cls p) mu)
  working := false
  read := none

/-- A budget computation for a publication, whole, at its publication (R51; log 10): the pending-profile stage, the
friction stage, the budgets, the pending triggers it completes, and the pending re-evaluation it becomes (R82). -/
def State.computeBudget (s : State) (p : Publication) : State :=
  let settings := s.gbu.settingsRead.stage p.estimate.vRef s.driveHolds
  let flu := s.flu.frictionStage s.params.recoverCycles (s.params.muNom settings.profile)
  let t := s.setGbu (s.budgetComputed p settings flu.learned)
  let t := match t.gbu.publication with
    | none => t
    | some q =>
      (t.setFlu (flu.completeTriggers s.params.recoverCycles q)).setGre { t.gre with waiting := some q }
  t

/-- The computation in flight publishes. -/
def State.publishBudget (s : State) : State :=
  if s.gbu.working then
    match s.leu.published with
    | none => s
    | some p => s.computeBudget p
  else s

/-- BUDGET_PUBLICATION (R61). -/
def execBudgetPublication (s : State) : Host.Outcome State Fault Refusal := go (s.whileOperating s.publishBudget)

/-! ## PROFILE_SET (R45 to R49) -/

/-- Standstill: v_ref is 0 and v_ref_valid is true (R16, R46). -/
def State.standstill (s : State) : Bool := s.sif.vRef == 0 && s.sif.vRefValid

/-- A profile is permissive against the profile in force (R48). -/
def State.permissive (s : State) (q : Profile) : Bool :=
  decide (s.params.muNom s.profile < s.params.muNom q) || decide (s.params.reserve q < s.params.reserve s.profile)

/-- An optional field holds a value outside its enumeration (R45, R198). -/
def optionalBad {α : Type} (f : Option Nat) (decode : Nat → Option α) : Bool :=
  match f with
  | none => false
  | some n => (decode n).isNone

/-- The class field names a class other than the class in force (R46). -/
def State.changesClass (s : State) (r : Request) : Bool :=
  match r.optionalField 1 with
  | none => false
  | some n =>
    match classOfCode n with
    | none => false
    | some k => k != s.gbu.settings.cls

/-- A permissive profile is held back: v_ref is above 0 and the drive grant holds force (R49). -/
def State.defers (s : State) (q : Profile) : Bool := s.permissive q && decide (0 < s.sif.vRef) && s.driveHolds

/-- The pending profile after an accepted profile field (R49). -/
def State.pendingAfter (s : State) (q : Profile) : Option PendingProfile :=
  if q = s.profile then none else if s.defers q then some ⟨q, .deferred⟩ else some ⟨q, .next⟩

/-- The refusal of a PROFILE_SET, in the order of R45's checks. -/
def State.profileRefusal (s : State) (r : Request) : Option ReplyCode :=
  if !s.running then some .notReady
  else if (profileOfCode (r.byte 0)).isNone || optionalBad (r.optionalField 1) classOfCode
      || optionalBad (r.optionalField 2) policyOfCode then some .badField
  else if s.changesClass r && !s.standstill then some .notStandstill
  else none

/-- The ride settings after an accepted PROFILE_SET (R46, R47, R49). -/
def State.settingsAfter (s : State) (r : Request) (q : Profile) : RideSettings :=
  { s.gbu.settings with
    pending := s.pendingAfter q
    cls := ((r.optionalField 1).bind classOfCode).getD s.gbu.settings.cls
    policy := ((r.optionalField 2).bind policyOfCode).getD s.gbu.settings.policy }

/-- A PROFILE_SET served and answered at once (R45). -/
def State.serveProfileSet (s : State) (r : Request) : State :=
  match s.profileRefusal r, profileOfCode (r.byte 0) with
  | some code, _ => s.answerCode .c .profileSet code
  | none, none => s.answerCode .c .profileSet .badField
  | none, some q =>
    (s.setGbu { s.gbu with settings := s.settingsAfter r q }).answerCode .c .profileSet
      (if s.defers q then .deferred else .ok)

/-- The computation in flight has not read the ride settings before any PROFILE_SET so far: whether it has by now is open
(R51). -/
def Gbu.readOpen (x : Gbu) : Bool := x.working && x.read.isNone

/-- The GBU as a PROFILE_SET finds it: where the computation in flight has read the ride settings by now, it keeps them as
they stand (R51). -/
def Gbu.readsSettings (x : Gbu) (before : Bool) : Gbu :=
  if x.readOpen && before then { x with read := some x.settings } else x

/-- A PROFILE_SET served after the read of the computation in flight, or before it (R51). -/
def State.profileSetAt (s : State) (before : Bool) (r : Request) : State :=
  (s.setGbu (s.gbu.readsSettings before)).serveProfileSet r

/-- A PROFILE_SET served: which of it and the read of a computation in flight comes first is a free value, drawn once for
each time it is open (R51; log 10). -/
def State.profileSetServed (s : State) (r : Request) : State :=
  (s.setFreeCount (if s.gbu.readOpen then s.freeCount + 1 else s.freeCount)).profileSetAt (Config.readBefore s.freeCount) r

/-- PROFILE_SET: the GBU serves Port C's outstanding request. -/
def execProfileSet (s : State) : Host.Outcome State Fault Refusal :=
  match s.served .c .profileSet with
  | none => go s
  | some r => go (s.whileOperating (s.profileSetServed r))

end Sys2Proof.Machine
end

