-- ==== Sys2Proof/Machine/Grants.lean ====
section
/-! DEFINITION. The grant engine (05_grants_and_the_rear_split.md): its service arbiter, re-evaluations, and the
requests it serves; with the start of the retained record's rewrite that a re-evaluation's completion is (R191). -/
namespace Sys2Proof.Machine

/-! ## The service arbiter (R80 to R83) -/

/-- The request a holder's port has waiting at the engine. -/
def State.waitingRequest (s : State) (h : Holder) : Option Request :=
  (s.port h.port).served.filter fun r => r.kind.grantKind

/-- The port whose waiting request is served next: an URGENT one ahead of any other, the pointer's port among equals
(R80). -/
def State.nextHolder (s : State) : Option Holder :=
  match s.waitingRequest .e, s.waitingRequest .b with
  | none, none => none
  | some _, none => some .e
  | none, some _ => some .b
  | some x, some y => if x.urgent == y.urgent then some s.gre.pointer else if x.urgent then some .e else some .b

/-- The budget in force that a budget publication gives (R83). -/
def BudgetPublication.inForce (p : BudgetPublication) : BudgetInForce :=
  ⟨⟨p.record.front.budget, p.record.rear.budget⟩, p.estimate.epoch, p.record.rear.mu⟩

/-- The engine after taking the re-evaluation of a publication (R83). -/
def State.takeReevaluation (s : State) (p : BudgetPublication) : Gre :=
  { s.gre with
    budget := p.inForce
    policy := s.gbu.settings.policy
    engine := .reevaluation
    waiting := none
    reported := some p.estimate }

/-- The free engine takes one waiting item (R80). -/
def State.takeService (s : State) : State :=
  if s.gre.engine = .free then
    match s.gre.waiting, s.nextHolder with
    | some p, _ => s.setGre (s.takeReevaluation p)
    | none, some h => s.setGre { s.gre with engine := .request h, pointer := h.other }
    | none, none => s
  else s

/-- GRE_SERVICE_TAKE (R80). -/
def execGreServiceTake (s : State) : Host.Outcome State Fault Refusal := go (s.whileOperating s.takeService)

/-! ## Shares (R84 to R87) -/

/-- A part of a limit: the requested force when the requests fit the limit, else its floored proportion. -/
def portion (requested limit total : Nat) : Nat := if total ≤ limit then requested else requested * limit / total

/-- The requested force of a key, 0 where no grant exists. -/
def State.requestedForce (s : State) (k : GrantKey) : Nat := ((s.grant k).map Grant.requested).getD 0

/-- The requested forces of the two rear brake keys (R85). -/
def State.rearBrakeRequests (s : State) : Nat := s.requestedForce .eRearBrake + s.requestedForce .bRearBrake

/-- The requested forces of the three rear keys (R86). -/
def State.rearRequests (s : State) : Nat := s.requestedForce .eRearDrive + s.rearBrakeRequests

/-- The share of a rear brake key out of a brake limit. -/
def State.brakePortion (s : State) (k : GrantKey) (limit : Nat) : Nat :=
  portion (s.requestedForce k) limit s.rearBrakeRequests

/-- The drive part Ds of the rear budget (R87). -/
def State.drivePart (s : State) : Nat := s.gre.budget.force.rear * s.params.drivePm / 1000

/-- The brake part Bs of the rear budget (R87). -/
def State.brakePart (s : State) : Nat := s.gre.budget.force.rear - s.drivePart

/-- The brake limit L (R87). -/
def State.brakeLimit (s : State) : Nat := s.brakePart + (s.drivePart - s.requestedForce .eRearDrive)

/-- The share of the drive key under the policy in use (R85 to R87). -/
def State.driveShare (s : State) : Nat :=
  match s.gre.policy with
  | .brakeFirst =>
    min (s.requestedForce .eRearDrive)
      (s.gre.budget.force.rear
        - (s.brakePortion .eRearBrake s.gre.budget.force.rear + s.brakePortion .bRearBrake s.gre.budget.force.rear))
  | .proportional => portion (s.requestedForce .eRearDrive) s.gre.budget.force.rear s.rearRequests
  | .fixedSplit => min (s.requestedForce .eRearDrive) (s.drivePart + (s.brakePart - s.rearBrakeRequests))

/-- The share of a rear brake key under the policy in use (R85 to R87). -/
def State.brakeShare (s : State) (k : GrantKey) : Nat :=
  match s.gre.policy with
  | .brakeFirst => s.brakePortion k s.gre.budget.force.rear
  | .proportional => portion (s.requestedForce k) s.gre.budget.force.rear s.rearRequests
  | .fixedSplit => s.brakePortion k s.brakeLimit

/-- The share of a key (R84 to R87). -/
def State.share (s : State) (k : GrantKey) : Nat :=
  match k with
  | .eRearDrive => s.driveShare
  | .bFrontBrake => min (s.requestedForce .bFrontBrake) s.gre.budget.force.front
  | .eRearBrake | .bRearBrake => s.brakeShare k

/-! ## Caps (R88) -/

/-- The clamp cap. -/
def Monitor.clampCap (m : Monitor) (k : GrantKey) (v : Nat) : Nat :=
  match m.state with
  | .hard => 0
  | .soft => match m.cap.get k with
    | some c => min v c
    | none => v
  | .idle | .armed | .delaying | .blanking => v

/-- The frozen ceiling. -/
def Confirmation.frozenCap (c : Confirmation) (v : Nat) : Nat :=
  match c with
  | .confirmed => v
  | .unconfirmed _ _ frozen => min v frozen

/-- A grant whose increases are paced (R78, R88). -/
def Grant.paced (g : Grant) (k : GrantKey) : Bool := k.direction == .drive || g.recovering

/-- The ramp cap. -/
def Grant.rampCap (g : Grant) (k : GrantKey) (ramp v : Nat) : Nat := if g.paced k then min v (g.rampBase + ramp) else v

/-- A value bounded by the three caps of R88, in their order. -/
def State.capped (s : State) (k : GrantKey) (g : Grant) (v : Nat) : Nat :=
  g.rampCap k s.ramp (g.confirmation.frozenCap ((s.monitor k.monitor).clampCap k v))

/-! ## Re-evaluation (R83 to R90) -/

/-- A grant after the countdown step: none when its countdown has reached 0 (R83). -/
def Grant.countDown (g : Grant) : Option Grant :=
  match g.confirmation with
  | .confirmed => some g
  | .unconfirmed n cause frozen =>
    if n ≤ 1 then none else some { g with confirmation := .unconfirmed (n - 1) cause frozen }

/-- The countdown step of one key (R83). -/
def State.countDownKey (s : State) (k : GrantKey) : State :=
  match s.grant k with
  | none => s
  | some g => s.writeGrant k g.countDown

/-- The countdown step of the table (R83). -/
def State.countDown (s : State) : State :=
  (((s.countDownKey .eRearDrive).countDownKey .eRearBrake).countDownKey .bFrontBrake).countDownKey .bRearBrake

/-- A grant after sharing and caps, its flags and fields settled (R88, R89). -/
def State.reshared (s : State) (k : GrantKey) (g : Grant) : Grant :=
  { g with
    granted := s.capped k g (s.share k)
    rampBase := s.capped k g (s.share k)
    recovering := g.recovering && s.capped k g (s.share k) != s.share k }.rederive (s.monitor k.monitor) k

/-- Every grant shared, capped and written (R84 to R89). -/
def State.reshare (s : State) : State := s.changeGrants allKeys s.reshared

/-- A grant as the retained record keeps it (R191). -/
def Grant.retained (g : Grant) : RetainedGrant :=
  ⟨g.requested, g.granted, g.applied, g.state, g.recovering, g.overuse⟩

/-- The ride settings as the retained record keeps them (R191, R197). -/
def RideSettings.retained (r : RideSettings) : RetainedSettings where
  profile := r.profile.code
  pending := r.pending.map fun q => (q.profile.code, q.kind)
  cls := r.cls.code
  policy := r.policy.code

/-- The whole copy a rewrite takes (R191). Where no estimate has been published the LEU's own values stand for the
record's; no re-evaluation is taken before one has. -/
def State.recordCopy (s : State) : RecordContents where
  epoch := (s.leu.published.map fun p => p.estimate.epoch).getD s.leu.epoch
  acc := (s.leu.published.map fun p => p.estimate.acc).getD s.leu.acc
  u := (s.leu.published.map fun p => p.estimate.u).getD s.leu.u
  events := s.flu.events
  settings := s.gbu.settings.retained
  budget := s.gre.budget
  grants :=
    ⟨(s.grant .eRearDrive).map Grant.retained, (s.grant .eRearBrake).map Grant.retained,
      (s.grant .bFrontBrake).map Grant.retained, (s.grant .bRearBrake).map Grant.retained⟩
  monitors := s.slm.map fun m => ⟨m.state, m.trigger⟩

/-- A rewrite of the retained record starts, or starts afresh: the valid mark clears and the copy is taken (R191). -/
def State.startRewrite (s : State) : State :=
  s.setSup { s.sup with record := { s.sup.record with valid := false }, rewrite := some s.recordCopy }

/-- Each port queues its STATUS frame (R90, R153). -/
def State.queueStatus (s : State) : State :=
  s.setPorts
    ⟨(s.port .e).placeStatus (s.statusPayload .e), (s.port .b).placeStatus (s.statusPayload .b),
      (s.port .c).placeStatus (s.statusPayload .c)⟩

/-- The engine is free again. -/
def State.freeEngine (s : State) : State := s.setGre { s.gre with engine := .free }

/-- The re-evaluation in service completes (R81, R83 to R90). -/
def State.completeReevaluation (s : State) : State :=
  if s.gre.engine = .reevaluation then s.countDown.reshare.freeEngine.queueStatus.startRewrite else s

/-- REEVALUATION_COMPLETION (R90). -/
def execReevaluationCompletion (s : State) : Host.Outcome State Fault Refusal :=
  go (s.whileOperating s.completeReevaluation)

/-- GRANT_COUNTDOWN_EXPIRY: the re-evaluation at which a grant's countdown reaches 0 and the grant is removed
(R83). -/
def execGrantCountdownExpiry (k : GrantKey) (s : State) : Host.Outcome State Fault Refusal :=
  let t := s.whileOperating s.completeReevaluation
  occurring ((s.grant k).isSome && (t.grant k).isNone) t s

/-! ## Requests (R91 to R97) -/

/-- The key a request names, when both codes lie in their enumerations (R76, R91). -/
inductive NamedKey where
  | bad
  | foreign
  | key (k : GrantKey)
  deriving DecidableEq, Repr

/-- The key that a request from a holder names by its wheel and direction (R76, R91). -/
def Request.named (r : Request) (h : Holder) : NamedKey :=
  match wheelOfCode (r.byte 0), directionOfCode (r.byte 1) with
  | some w, some d =>
    match h.key w d with
    | some k => .key k
    | none => .foreign
  | _, _ => .bad

/-- The outstanding request of a kind that the engine has in service. -/
def State.inService (s : State) (kind : MessageKind) : Option (Holder × Request) :=
  match s.gre.engine with
  | .request h => (s.served h.port kind).map fun r => (h, r)
  | .free | .reevaluation => none

/-- The granted forces of the other grants on a key's wheel (R93). -/
def State.othersGranted (s : State) (k : GrantKey) : Nat :=
  ((allKeys.filter fun j => j != k && j.wheel == k.wheel).map fun j => (s.grantedForce j).getD 0).sum

/-- The room of a key (R93). -/
def State.room (s : State) (k : GrantKey) : Nat := s.gre.budget.force.get k.wheel - s.othersGranted k

/-- A grant as a request creates it, before its force is worked out (R92). -/
def Grant.created (amount : Nat) : Grant where
  requested := amount
  granted := 0
  rampBase := 0
  applied := none
  state := .full
  recovering := false
  overuse := false
  confirmation := .confirmed

/-- The grant a request for an amount works on: created, or resized (R92). That a grant is created CONFIRMED, as R92 has it,
though its port may have gone LOST while the engine was busy (R81), is the model's choice (log 43). -/
def State.requestedGrant (s : State) (k : GrantKey) (amount : Nat) : Grant :=
  match s.grant k with
  | none => .created amount
  | some g => { g with requested := amount }

/-- The target t of a request (R93). -/
def State.target (s : State) (k : GrantKey) (amount : Nat) : Nat := s.capped k (s.requestedGrant k amount) amount

/-- A key under which BRAKE_FIRST cuts the drive grant at arrival (R94). -/
def cutsDrive (k : GrantKey) : Bool := k == .eRearBrake || k == .bRearBrake

/-- The cut c of the drive grant at a request's arrival (R94). -/
def State.driveCut (s : State) (k : GrantKey) (amount : Nat) : Nat :=
  if s.gre.policy = .brakeFirst ∧ cutsDrive k then
    min (s.target k amount - s.room k) ((s.grantedForce .eRearDrive).getD 0)
  else 0

/-- The granted force a request gives (R93). -/
def State.grantedAtArrival (s : State) (k : GrantKey) (amount : Nat) : Nat :=
  min (s.target k amount) (s.room k + s.driveCut k amount)

/-- The ramp base after a request's completion (R78). -/
def Grant.rampBaseAfter (g : Grant) (k : GrantKey) (granted : Nat) : Nat :=
  if g.paced k then min g.rampBase granted else granted

/-- The grant as a request's completion writes it (R92, R93). -/
def State.grantAfter (s : State) (k : GrantKey) (amount : Nat) : Grant :=
  let g := s.requestedGrant k amount
  { g with
    granted := s.grantedAtArrival k amount
    rampBase := g.rampBaseAfter k (s.grantedAtArrival k amount) }.rederive (s.monitor k.monitor) k

/-- The drive grant cut at a brake request's arrival (R94). -/
def State.cutDrive (s : State) (c : Nat) : State :=
  if c = 0 then s
  else s.changeGrant .eRearDrive fun g => (g.lower (g.granted - c)).rederive (s.monitor .rearSpin) .eRearDrive

/-- An accepted request written to the table: the drive cut, then the grant itself (R92 to R94). -/
def State.grantWritten (s : State) (k : GrantKey) (amount : Nat) : State :=
  (s.cutDrive (s.driveCut k amount)).writeGrant k (some (s.grantAfter k amount))

/-- The refusal of a grant-kind request by its named key, in the order of R91's checks; `fieldsGood` speaks of the
fields other than wheel and direction. -/
def State.grantRefusal (s : State) (named : NamedKey) (fieldsGood : Bool) : Option ReplyCode :=
  if !s.running then some .notReady
  else if named = .bad || !fieldsGood then some .badField
  else if named = .foreign then some .notPermitted
  else none

/-- The remainder of a GRANT_REQUEST's reply: the granted force and the budget-in-force epoch (R95). -/
def State.grantRest (s : State) (granted : Nat) : List Byte := bytesOfNat granted ++ bytesOfWord s.gre.budget.epoch

/-- The engine is free and the port it served is answered (R81, R95). -/
def State.finishService (s : State) (p : PortName) (r : Reply) : State := s.freeEngine.answer p r

/-- A GRANT_REQUEST served (R91 to R95). -/
def State.serveGrantRequest (s : State) (h : Holder) (r : Request) : State :=
  match s.grantRefusal (r.named h) (r.byte 4 ≤ 1), r.named h with
  | none, .key k =>
    (s.grantWritten k r.force).finishService h.port
      ⟨.grantRequest, (s.grantAfter k r.force).state.replyCode, s.grantRest (s.grantAfter k r.force).granted⟩
  | some code, _ => s.finishService h.port ⟨.grantRequest, code, s.grantRest 0⟩
  | none, _ => s.finishService h.port ⟨.grantRequest, .badField, s.grantRest 0⟩

/-- GRANT_REQUEST: the request in service completes (R91 to R95). -/
def execGrantRequest (s : State) : Host.Outcome State Fault Refusal :=
  match s.inService .grantRequest with
  | none => go s
  | some (h, r) => go (s.whileOperating (s.serveGrantRequest h r))

/-- A GRANT_RELEASE served (R96). -/
def State.serveGrantRelease (s : State) (h : Holder) (r : Request) : State :=
  match s.grantRefusal (r.named h) true, r.named h with
  | none, .key k =>
    match s.grant k with
    | some _ => (s.writeGrant k none).finishService h.port ⟨.grantRelease, .ok, []⟩
    | none => s.finishService h.port ⟨.grantRelease, .notHeld, []⟩
  | some code, _ => s.finishService h.port ⟨.grantRelease, code, []⟩
  | none, _ => s.finishService h.port ⟨.grantRelease, .badField, []⟩

/-- GRANT_RELEASE: the request in service completes (R96). -/
def execGrantRelease (s : State) : Host.Outcome State Fault Refusal :=
  match s.inService .grantRelease with
  | none => go s
  | some (h, r) => go (s.whileOperating (s.serveGrantRelease h r))

/-- A grant after a use report (R97). -/
def Grant.reported (g : Grant) (applied : Nat) : Grant :=
  { g with applied := some applied, overuse := decide (g.granted < applied) }

/-- A use report taken for a key: the grant, and the key's report fresh for 25 budget computations (R66, R97). -/
def State.takeReport (s : State) (k : GrantKey) (applied : Nat) : State :=
  match s.grant k with
  | none => s
  | some g =>
    (s.writeGrant k (some (g.reported applied))).setFlu { s.flu with reports := s.flu.reports.set k 25 }

/-- What a USE_REPORT does, or nothing where it is discarded (R97). -/
def State.useReported (s : State) (h : Holder) (r : Request) : State :=
  match s.grantRefusal (r.named h) true, r.named h with
  | none, .key k => s.takeReport k r.force
  | some _, _ => s
  | none, _ => s

/-- The engine is free and the port it served goes on without a reply (R97, R147). -/
def State.finishSilently (s : State) (p : PortName) : State :=
  s.freeEngine.setPort p ((s.port p).dequeue.handOn)

/-- USE_REPORT: the report in service completes (R97). -/
def execUseReport (s : State) : Host.Outcome State Fault Refusal :=
  match s.inService .useReport with
  | none => go s
  | some (h, r) => go (s.whileOperating ((s.useReported h r).finishSilently h.port))

end Sys2Proof.Machine
end

