-- ==== Sys2Proof/Machine/Store.lean ====
section
/-! DEFINITION. The calibration store (09_calibration_store.md): the service input, the calibration requests and the
completions of the flash array's operations. -/
namespace Sys2Proof.Machine

/-! ## The service input (R166, R169) -/

/-- The store after one sample of the service input (R166). -/
def Cst.sampleService (x : Cst) (high : Bool) : Cst :=
  if high = x.serviceAsserted then { x with serviceCount := 0 }
  else if 4 ≤ x.serviceCount + 1 then { x with serviceAsserted := high, serviceCount := 0 }
  else { x with serviceCount := x.serviceCount + 1 }

/-- One sample of the service input; a change to RELEASED closes the session (R166, R169). -/
def State.sampleService (s : State) (high : Bool) : State :=
  let t := s.setCst (s.cst.sampleService high)
  if s.cst.serviceAsserted && !t.cst.serviceAsserted then t.closeSession else t

/-- SVC_SAMPLE (R166). -/
def execSvcSample (svcHigh : Bool) (s : State) : Host.Outcome State Fault Refusal :=
  go (s.whileOperating (s.sampleService svcHigh))

/-- SVC_ASSERTED: the high sample at which the service input level becomes ASSERTED (R166). -/
def execSvcAsserted (s : State) : Host.Outcome State Fault Refusal :=
  let t := s.whileOperating (s.sampleService true)
  occurring (!s.cst.serviceAsserted && t.cst.serviceAsserted) t s

/-- SVC_RELEASED: the low sample at which the service input level becomes RELEASED, which closes the session
(R166, R169). -/
def execSvcReleased (s : State) : Host.Outcome State Fault Refusal :=
  let t := s.whileOperating (s.sampleService false)
  occurring (s.cst.serviceAsserted && !t.cst.serviceAsserted) t s

/-! ## The checks (R167, R168) -/

/-- Bytes of a sector from an offset that do not reach beyond byte 255. -/
def fitsSector (offset n : Nat) : Bool := decide (offset + n ≤ 256)

/-- The bytes a CAL_PROGRAM carries. -/
def Request.programBytes (r : Request) : List Byte := r.payload.drop 2

/-- A field of a calibration request lies outside its range (R167). -/
def Request.calibrationFieldBad (r : Request) : Bool :=
  match r.kind with
  | .calRead =>
    (sectorOfCode (r.byte 0)).isNone || r.byte 2 == 0 || decide (24 < r.byte 2) || !fitsSector (r.byte 1) (r.byte 2)
  | .calErase => (sectorOfCode (r.byte 0)).isNone || sectorOfCode (r.byte 0) == some .s3
  | .calProgram => (sectorOfCode (r.byte 0)).isNone || !fitsSector (r.byte 1) r.programBytes.length
  | .grantRequest | .grantRelease | .useReport | .clampClear | .shiftNotice | .profileSet | .calOpen | .calLock
  | .calWipe | .calClose | .checkTest | .linkHold | .status | .reply => false

/-- The lock state refuses a kind while the store is LOCKED (R167). -/
def lockRefuses (kind : MessageKind) : Bool := kind == .calErase || kind == .calProgram

/-- LOW_SUPPLY refuses a kind (R167). -/
def supplyRefuses (kind : MessageKind) : Bool := kind == .calProgram || kind == .calLock

/-- The sector a request names; its checks have passed wherever the value matters. -/
def Request.sector (r : Request) : Sector := (sectorOfCode (r.byte 0)).getD .s0

/-- The target bytes of a CAL_PROGRAM all read 0xFF (R173). -/
def State.targetErased (s : State) (r : Request) : Bool :=
  allErased (s.cst.flash.readSector r.sector (r.byte 1) r.programBytes.length)

/-- The refusal of a calibration request other than CAL_OPEN, in the order of R167's checks. -/
def State.calibrationRefusal (s : State) (r : Request) : Option ReplyCode :=
  if !s.running then some .notReady
  else if r.calibrationFieldBad then some .badField
  else if s.cst.session = .closed then some .noService
  else if lockRefuses r.kind && s.cst.lock == .locked then some .locked
  else if supplyRefuses r.kind && s.sup.low then some .lowSupply
  else if r.kind == .calProgram && !s.targetErased r then some .notErased
  else none

/-- The answer to a CAL_OPEN (R167, R168). -/
def State.openCode (s : State) : ReplyCode :=
  if !s.running then .notReady
  else if (s.port .c).state ≠ .up ∨ s.cst.serviceAsserted = false then .noService
  else if 0 < s.sif.vRef ∨ s.sif.vRefValid = false then .notStandstill
  else .ok

/-! ## Answers (R170) -/

/-- A calibration request answered: the last result becomes its kind and code, and Port C gets the reply (R170). -/
def State.answerCalibration (s : State) (kind : MessageKind) (code : ReplyCode) (rest : List Byte) : State :=
  (s.setCst { s.cst with last := some (kind, code) }).answer .c ⟨kind, code, rest⟩

/-- The calibration request the store serves: Port C's outstanding request of a kind, with no operation in flight. -/
def State.calibrationServed (s : State) (kind : MessageKind) : Option Request :=
  if s.cst.operation.isSome then none else s.served .c kind

/-- A calibration request served: refused by the checks, or carried out (R167, R170). -/
def State.serveCalibration (s : State) (r : Request) (carryOut : State) : State :=
  match s.calibrationRefusal r with
  | some code => s.answerCalibration r.kind code []
  | none => carryOut

/-- An operation starts and occupies the array for a time in microseconds (R170). -/
def State.startOperation (s : State) (o : FlashOperation) (microseconds : Nat) : State :=
  s.setCst { s.cst with operation := some ⟨o, microseconds⟩ }

/-! ## The requests -/

/-- A CAL_OPEN served (R168). -/
def State.serveOpen (s : State) : State :=
  if s.openCode = .ok then (s.setCst { s.cst with session := .opened }).answerCalibration .calOpen .ok []
  else s.answerCalibration .calOpen s.openCode []

/-- CAL_OPEN (R168). -/
def execCalOpen (s : State) : Host.Outcome State Fault Refusal :=
  match s.calibrationServed .calOpen with
  | none => go s
  | some _ => go (s.whileOperating s.serveOpen)

/-- CAL_CLOSE (R169). -/
def execCalClose (s : State) : Host.Outcome State Fault Refusal :=
  match s.calibrationServed .calClose with
  | none => go s
  | some r => go (s.whileOperating (s.serveCalibration r (s.closeSession.answerCalibration .calClose .ok [])))

/-- The remainder of a CAL_READ answered OK: sector, offset, the bytes in order (R155, R171). -/
def State.readRest (s : State) (r : Request) : List Byte :=
  [byteOf (r.byte 0), byteOf (r.byte 1)] ++ s.cst.flash.readSector r.sector (r.byte 1) (r.byte 2)

/-- CAL_READ (R171). -/
def execCalRead (s : State) : Host.Outcome State Fault Refusal :=
  match s.calibrationServed .calRead with
  | none => go s
  | some r => go (s.whileOperating (s.serveCalibration r (s.answerCalibration .calRead .ok (s.readRest r))))

/-- CAL_ERASE: an erase of 20 ms starts (R172). -/
def execCalErase (s : State) : Host.Outcome State Fault Refusal :=
  match s.calibrationServed .calErase with
  | none => go s
  | some r => go (s.whileOperating (s.serveCalibration r (s.startOperation (.erase r.sector) 20000)))

/-- CAL_PROGRAM: a program of 1 ms starts (R173). -/
def execCalProgram (s : State) : Host.Outcome State Fault Refusal :=
  match s.calibrationServed .calProgram with
  | none => go s
  | some r =>
    go (s.whileOperating (s.serveCalibration r
      (s.startOperation (.program r.sector (r.byte 1) r.programBytes) 1000)))

/-- CAL_LOCK: the write of the lock word, 1 ms, starts (R175). -/
def execCalLock (s : State) : Host.Outcome State Fault Refusal :=
  match s.calibrationServed .calLock with
  | none => go s
  | some r => go (s.whileOperating (s.serveCalibration r (s.startOperation .lock 1000)))

/-- CAL_WIPE: a wipe of 80 ms starts (R176). -/
def execCalWipe (s : State) : Host.Outcome State Fault Refusal :=
  match s.calibrationServed .calWipe with
  | none => go s
  | some r => go (s.whileOperating (s.serveCalibration r (s.startOperation (.wipe 0 true) 80000)))

/-! ## The completions (R172 to R176) -/

/-- OK when what was read back agrees, else VERIFY_FAIL. -/
def verified (agrees : Bool) : ReplyCode := if agrees then .ok else .verifyFail

/-- A sector reads all 0xFF (R172). -/
def Memory.sectorErased (m : Memory) (k : Sector) : Bool := allErased (m.readSector k 0 256)

/-- The store with its operation ended and its flash as the completion left it (R170). -/
def Cst.endOperation (x : Cst) (flash : Memory) : Cst := { x with flash := flash, operation := none }

/-- An erase completes (R172). -/
def State.eraseCompletes (s : State) (k : Sector) (left : ArrayLeft) : State :=
  (s.setCst (s.cst.endOperation (s.cst.flash.afterErase k left))).answerCalibration .calErase
    (verified ((s.cst.flash.afterErase k left).sectorErased k)) []

/-- CAL_ERASE_COMPLETION (R172). -/
def execCalEraseCompletion (left : ArrayLeft) (s : State) : Host.Outcome State Fault Refusal :=
  match s.cst.operation with
  | some ⟨.erase k, _⟩ => go (s.whileOperating (s.eraseCompletes k left))
  | some ⟨.program _ _ _, _⟩ | some ⟨.lock, _⟩ | some ⟨.wipe _ _, _⟩ | none => go s

/-- A program completes (R173). -/
def State.programCompletes (s : State) (k : Sector) (offset : Nat) (bytes : List Byte) (left : ArrayLeft) : State :=
  (s.setCst (s.cst.endOperation (s.cst.flash.afterProgram k offset bytes left))).answerCalibration .calProgram
    (verified ((s.cst.flash.afterProgram k offset bytes left).readSector k offset bytes.length == bytes)) []

/-- CAL_PROGRAM_COMPLETION (R173). -/
def execCalProgramCompletion (left : ArrayLeft) (s : State) : Host.Outcome State Fault Refusal :=
  match s.cst.operation with
  | some ⟨.program k offset bytes, _⟩ => go (s.whileOperating (s.programCompletes k offset bytes left))
  | some ⟨.erase _, _⟩ | some ⟨.lock, _⟩ | some ⟨.wipe _ _, _⟩ | none => go s

/-- The flash after a CAL_LOCK: the lock word programmed with 0x00, whatever it holds. Programming only clears bits, so a
lock word that read 0x00 still does, whatever the array left (R175). -/
def Memory.afterLock (m : Memory) (left : ArrayLeft) : Memory := m.afterProgram .s3 0 [0] left

/-- The lock word reads 0x00 (R175). -/
def Memory.lockWordClear (m : Memory) : Bool := m.read (Sector.base .s3) == 0

/-- The store after a CAL_LOCK completes: LOCKED when the lock word reads back 0x00 (R175). -/
def Cst.locked (x : Cst) (flash : Memory) : Cst :=
  if flash.lockWordClear then { x.endOperation flash with lock := .locked } else x.endOperation flash

/-- A CAL_LOCK completes (R175). -/
def State.lockCompletes (s : State) (left : ArrayLeft) : State :=
  (s.setCst (s.cst.locked (s.cst.flash.afterLock left))).answerCalibration .calLock
    (verified (s.cst.flash.afterLock left).lockWordClear) []

/-- CAL_LOCK_COMPLETION (R175). -/
def execCalLockCompletion (left : ArrayLeft) (s : State) : Host.Outcome State Fault Refusal :=
  match s.cst.operation with
  | some ⟨.lock, _⟩ => go (s.whileOperating (s.lockCompletes left))
  | some ⟨.erase _, _⟩ | some ⟨.program _ _ _, _⟩ | some ⟨.wipe _ _, _⟩ | none => go s

/-- One sector's erase within a wipe: the sector, and whether it and those before it read back erased (R176). -/
def Cst.wipeOne (x : Cst) (k : Sector) (erased : Nat) (clean : Bool) (remaining : Nat) (left : ArrayLeft) : Cst :=
  { x with
    flash := x.flash.afterErase k left
    operation :=
      some ⟨.wipe (erased + 1) (clean && (x.flash.afterErase k left).sectorErased k), remaining⟩ }

/-- The next sector of a wipe is erased (R176). -/
def State.wipeNext (s : State) (left : ArrayLeft) : State :=
  match s.cst.operation with
  | some ⟨.wipe erased clean, remaining⟩ =>
    match wipeSector erased with
    | some k => s.setCst (s.cst.wipeOne k erased clean remaining left)
    | none => s
  | some ⟨.erase _, _⟩ | some ⟨.program _ _ _, _⟩ | some ⟨.lock, _⟩ | none => s

/-- WIPE_SECTOR_ERASE_COMPLETION (R176). -/
def execWipeSectorEraseCompletion (left : ArrayLeft) (s : State) : Host.Outcome State Fault Refusal :=
  go (s.whileOperating (s.wipeNext left))

/-- The store after a wipe: UNLOCKED whatever the result (R176). -/
def Cst.unlocked (x : Cst) : Cst := { x with operation := none, lock := .unlocked }

/-- A wipe completes once its four sectors have been erased (R176). -/
def State.wipeCompletes (s : State) : State :=
  match s.cst.operation with
  | some ⟨.wipe erased clean, _⟩ =>
    if erased = 4 then (s.setCst s.cst.unlocked).answerCalibration .calWipe (verified clean) [] else s
  | some ⟨.erase _, _⟩ | some ⟨.program _ _ _, _⟩ | some ⟨.lock, _⟩ | none => s

/-- Three sectors of the wipe in flight have been erased. -/
def Cst.lastWipe (x : Cst) : Bool :=
  match x.operation with
  | some ⟨.wipe erased _, _⟩ => erased == 3
  | some ⟨.erase _, _⟩ | some ⟨.program _ _ _, _⟩ | some ⟨.lock, _⟩ | none => false

/-- CAL_WIPE_COMPLETION (R176): the fourth sector's erase, if its own row has not taken it, and the completion
(log 26). -/
def execCalWipeCompletion (left : ArrayLeft) (s : State) : Host.Outcome State Fault Refusal :=
  go (s.whileOperating (if s.cst.lastWipe then (s.wipeNext left).wipeCompletes else s.wipeCompletes))

end Sys2Proof.Machine
end

