-- ==== Sys2Proof/Machine/Supply.lean ====
section
/-! DEFINITION. The supply supervisor (10_supply_monitoring_and_warm_start.md): the comparators, the reset and
ignition inputs, entry into OFF and RESET, the release with its cold or warm decision and what each block takes at it,
the load's completion, SENSOR_WAIT's limit and the retained record's rewrite. -/
namespace Sys2Proof.Machine

/-! ## The retained record's check (R191) -/

/-- The check word of a record's contents: the 16-bit sum of its bytes, inverted (R191). -/
def recordCheck (c : RecordContents) : Word16 := ~~~ BitVec.ofNat 16 (byteSum (Config.recordBytes c))

/-- The supervisor after a rewrite completes: copy and check word written, valid mark set, outage counter 0 (R191). -/
def Sup.rewritten (x : Sup) (c : RecordContents) : Sup :=
  { x with record := ⟨some c, true, recordCheck c⟩, outage := 0, rewrite := none }

/-- The rewrite in progress completes (R191). -/
def State.rewriteCompletes (s : State) : State :=
  match s.sup.rewrite with
  | none => s
  | some c => s.setSup (s.sup.rewritten c)

/-- RETAINED_REWRITE_COMPLETION (R191). -/
def execRetainedRewriteCompletion (s : State) : Host.Outcome State Fault Refusal :=
  go (s.whileOperating s.rewriteCompletes)

/-! ## Entry into OFF and RESET (R19, R42, R64, R75, R105, R127, R137, R161, R177, R184, R191) -/

/-- A line held low (R137). -/
def CeilingLine.held (l : CeilingLine) : CeilingLine :=
  { l with current := 0, preset := 0, carried := none, timer := none, high := false }

/-- A port stopped: a frame being received abandoned, one being sent cut short, requests and waiting frames dropped
(R161). That the receive assembly stands at HUNTING with its idle time at 0 while the part is held, in READY or HUNTING before
too, and that the transmitter is free from the entry on, whether it was sending or in its idle gap, are the model's
choices (log 40). -/
def Port.stopped (x : Port) : Port :=
  { x with
    receiver := Port.start.receiver
    queue := []
    outstanding := false
    replies := []
    slot := none
    transmitter := .free }

/-- A monitor stopped: its lock window stops without expiry (R127). -/
def Monitor.stopped (x : Monitor) : Monitor := { x with window := none }

/-- The sensor interface stopped: the transaction in flight is abandoned (R19). -/
def Sif.stopped (x : Sif) : Sif := { x with transaction := false, mosi := [] }

/-- The lean estimation unit stopped (R42). -/
def Leu.stopped (x : Leu) : Leu := { x with cycleTimer := none, work := .idle }

/-- The grip budget unit stopped (R64). -/
def Gbu.stopped (x : Gbu) : Gbu := { x with working := false, read := none }

/-- The friction learning unit stopped (R75). -/
def Flu.stopped (x : Flu) : Flu := { x with triggers := [] }

/-- The grant engine stopped (R105). -/
def Gre.stopped (x : Gre) : Gre := { x with engine := .free, waiting := none }

/-- The calibration store stopped: an operation in flight is cut short (R177). -/
def Cst.stopped (x : Cst) (use : Nat) : Cst :=
  match x.operation with
  | none => x
  | some o => { x with flash := x.flash.cutShort use o.operation, operation := none }

/-- The supervisor as its blocks stop: the limit stops, and a rewrite in progress is cut short (R191), its check word as
it was before (log 39). -/
def Sup.stopped (x : Sup) : Sup :=
  match x.rewrite with
  | none => { x with sensorWait := none }
  | some _ => { x with sensorWait := none, rewrite := none, record := { x.record with contents := none, valid := false } }

/-- Every block stops where it stands (R184). One number of free values is used up (log 18). -/
def State.stopBlocks (s : State) : State where
  sif := s.sif.stopped
  leu := s.leu.stopped
  gbu := s.gbu.stopped
  flu := s.flu.stopped
  gre := s.gre.stopped
  slm := s.slm.map Monitor.stopped
  lines := s.lines.map CeilingLine.held
  ports := s.ports.map Port.stopped
  cst := s.cst.stopped s.freeCount
  sup := s.sup.stopped
  freeCount := s.freeCount + 1
  pending := s.pending

/-- The blocks stop when the part was operating; held already, they have stopped. -/
def State.stopped (s : State) : State := if s.operating then s.stopBlocks else s

/-- The part enters RESET with a cause, unless it is held already: then the cause and the start state stay (R184). -/
def State.enterReset (s : State) (cause : EntryCause) : State :=
  if s.operating then s.stopBlocks.setSup { s.stopBlocks.sup with start := .reset, entry := cause } else s

/-- The part enters OFF: the record's valid mark is cleared and the entry cause is IGNITION (R183, R184). -/
def State.enterOff (s : State) : State :=
  s.stopped.setSup { s.stopped.sup with
    start := .off, entry := .ignition, record := { s.stopped.sup.record with valid := false } }

/-! ## The release (R184, R187, R192) -/

/-- The contents a warm start takes: the valid mark is set, the check word matches and the counter is 200 or less
(R187). None means a cold start. -/
def Sup.warmContents (x : Sup) : Option RecordContents :=
  if x.record.valid && decide (x.outage ≤ 200) then x.record.contents.filter fun c => x.record.check == recordCheck c
  else none

/-- The start cause of an entry cause. -/
def EntryCause.startCause : EntryCause → StartCause
  | .ignition => .ignition
  | .supplyLoss => .supplyLoss
  | .resetLine => .resetLine

/-- The supervisor at a release: kind and cause decided, the retention-lost flag cleared, LOW_SUPPLY clear, the
built-in warning level, LOADING (R181, R184, R187). -/
def Sup.released (x : Sup) : Sup :=
  { x with
    start := .loading
    low := false
    lowCount := 0
    level := .v90
    kind := if x.warmContents.isSome then .warm else .cold
    cause := if x.retentionLost then .powerOn else x.entry.startCause
    sensorWait := none
    retentionLost := false
    rewrite := none }

/-- U at a warm start (R41). -/
def warmUncertainty (outage : Nat) : Nat := min 3000 (500 + outage * 25 / 4)

/-- The lean estimation unit at a warm release (R41). Its latest estimate record is none, as after a cold one: R41 gives
it no value (log 36). -/
def Leu.warm (c : RecordContents) (outage : Nat) : Leu :=
  if c.u = 6000 then { Leu.cold with epoch := c.epoch }
  else { Leu.cold with epoch := c.epoch, acc := c.acc, conf := .settling, u := warmUncertainty outage }

/-- The ride settings restored from their codes: a code outside its enumeration is replaced by the built-in default of its
field, a pending profile's by that of the profile, its kind kept (R62, R63; log 34). -/
def RetainedSettings.restored (r : RetainedSettings) : RideSettings where
  profile := (profileOfCode r.profile).getD .touring
  pending := r.pending.map fun q => ⟨(profileOfCode q.1).getD .touring, q.2⟩
  cls := (classOfCode r.cls).getD .solo
  policy := (policyOfCode r.policy).getD .brakeFirst

/-- The grip budget unit at a warm release (R63). -/
def Gbu.warm (c : RecordContents) : Gbu := { Gbu.cold with settings := c.settings.restored }

/-- A slip event after an outage (R74). -/
def SlipEvent.after (e : SlipEvent) (outage : Nat) : SlipEvent := { e with age := min 65535 (e.age + outage / 4) }

/-- The friction learning unit at a warm release (R74). -/
def Flu.warm (c : RecordContents) (outage : Nat) : Flu :=
  { Flu.cold with events := c.events.map fun e => e.after outage }

/-- A grant restored: UNCONFIRMED, CARRIED, countdown 250, frozen at its restored force (R104). -/
def RetainedGrant.restored (r : RetainedGrant) : Grant where
  requested := r.requested
  granted := r.granted
  rampBase := r.granted
  applied := r.applied
  state := r.state
  recovering := r.recovering
  overuse := r.overuse
  confirmation := .unconfirmed 250 .carried r.granted

/-- The grant of a key after a warm release: restored (R104), and RECOVERING with its state derived afresh when its
monitor was recorded in SOFT (R126, R99). -/
def RecordContents.carriedGrant (c : RecordContents) (k : GrantKey) : Option Grant :=
  (c.grants.get k).map fun r =>
    if (c.monitors.get k.monitor).state = .soft then { r.restored with recovering := true }.rederive .cold k
    else r.restored

/-- The grant engine at a warm release (R104). -/
def Gre.warm (c : RecordContents) : Gre :=
  { Gre.cold with
    grants :=
      ⟨c.carriedGrant .eRearDrive, c.carriedGrant .eRearBrake, c.carriedGrant .bFrontBrake, c.carriedGrant .bRearBrake⟩
    budget := c.budget
    policy := c.settings.restored.policy }

/-- A monitor at a warm release: HARD is restored with its trigger kind, any other state as IDLE (R126). -/
def RetainedMonitor.restored (r : RetainedMonitor) : Monitor :=
  match r.state with
  | .hard => { Monitor.cold with state := .hard, trigger := r.trigger }
  | .idle | .armed | .delaying | .soft | .blanking => .cold

/-- A line at a warm release: its period starts with the target code of the restored force (R139). -/
def CeilingLine.warm (fullScale : Nat) (carried : Option Nat) : CeilingLine :=
  ⟨targetCode fullScale carried, targetCode fullScale carried, carried, some 0, fullScale, true⟩

/-- The calibration store at a release, cold or warm (R178); the working copy, mask and lock state are those before a
load (log 6, 7). -/
def Cst.released (x : Cst) : Cst := { Cst.fresh with flash := x.flash }

/-- The blocks at a cold release. -/
def State.releaseCold (s : State) : State where
  sif := .start
  leu := .cold
  gbu := .cold
  flu := .cold
  gre := .cold
  slm := ⟨.cold, .cold, .cold⟩
  lines :=
    ⟨.cold builtInVehicle.fullScale.cld, .cold builtInVehicle.fullScale.clf, .cold builtInVehicle.fullScale.clr⟩
  ports := ⟨.start, .start, .start⟩
  cst := s.cst.released
  sup := s.sup.released
  freeCount := s.freeCount
  pending := s.pending

/-- The blocks at a warm release from a record's contents (R192). -/
def State.releaseWarm (s : State) (c : RecordContents) : State where
  sif := .start
  leu := .warm c s.sup.outage
  gbu := .warm c
  flu := .warm c s.sup.outage
  gre := .warm c
  slm := c.monitors.map RetainedMonitor.restored
  lines :=
    ⟨.warm builtInVehicle.fullScale.cld ((c.grants.get .eRearDrive).map RetainedGrant.granted),
      .warm builtInVehicle.fullScale.clf ((c.grants.get .bFrontBrake).map RetainedGrant.granted),
      .warm builtInVehicle.fullScale.clr ((c.grants.get .bRearBrake).map RetainedGrant.granted)⟩
  ports := ⟨.start, .start, .start⟩
  cst := s.cst.released
  sup := s.sup.released
  freeCount := s.freeCount
  pending := s.pending

/-- The release from reset (R184, R187, R192). -/
def State.release (s : State) : State :=
  match s.sup.warmContents with
  | some c => s.releaseWarm c
  | none => s.releaseCold

/-- A hold has ended: the part is released when it was in RESET and no hold remains (R184). -/
def State.holdEnds (s : State) : State :=
  if s.sup.start = .reset ∧ s.sup.tripped = false ∧ s.sup.rstLow = false then s.release else s

/-! ## The supply comparators (R180, R181) -/

/-- The warning comparator after one sample (R181). -/
def Sup.sampleWarning (x : Sup) (mv : Nat) : Sup :=
  if x.low then
    if x.level.millivolts + 300 < mv then
      if 4 ≤ x.lowCount + 1 then { x with low := false, lowCount := 0 } else { x with lowCount := x.lowCount + 1 }
    else { x with lowCount := 0 }
  else if mv < x.level.millivolts then
    if 4 ≤ x.lowCount + 1 then { x with low := true, lowCount := 0 } else { x with lowCount := x.lowCount + 1 }
  else { x with lowCount := 0 }

/-- The supply-loss comparator after one sample (R180). -/
def Sup.sampleLoss (x : Sup) (mv : Nat) : Sup :=
  if x.tripped then
    if 6500 < mv then
      if 2 ≤ x.tripCount + 1 then { x with tripped := false, tripCount := 0 }
      else { x with tripCount := x.tripCount + 1 }
    else { x with tripCount := 0 }
  else if mv < 6000 then
    if 2 ≤ x.tripCount + 1 then { x with tripped := true, tripCount := 0 }
    else { x with tripCount := x.tripCount + 1 }
  else { x with tripCount := 0 }

/-- The warning comparator samples only while the part is operating (R181). -/
def State.sampleWarning (s : State) (mv : Nat) : State := s.whileOperating (s.setSup (s.sup.sampleWarning mv))

/-- The supply-loss comparator samples in every start state; its changes enter RESET or end that hold (R180). -/
def State.sampleLoss (s : State) (mv : Nat) : State :=
  let t := s.setSup (s.sup.sampleLoss mv)
  if t.sup.tripped && !s.sup.tripped then t.enterReset .supplyLoss
  else if s.sup.tripped && !t.sup.tripped then t.holdEnds
  else t

/-- Both comparators sample VSUP, the warning comparator first (log 19). -/
def State.supplySampled (s : State) (mv : Nat) : State := (s.sampleWarning mv).sampleLoss mv

/-- SUPPLY_SAMPLE (R180, R181). -/
def execSupplySample (millivolts : Nat) (s : State) : Host.Outcome State Fault Refusal := go (s.supplySampled millivolts)

/-- SUPPLY_LOSS_TRIP: the sample at which the supply-loss comparator becomes TRIPPED (R180). -/
def execSupplyLossTrip (millivolts : Nat) (s : State) : Host.Outcome State Fault Refusal :=
  occurring (!s.sup.tripped && (s.supplySampled millivolts).sup.tripped) (s.supplySampled millivolts) s

/-- SUPPLY_LOSS_CLEAR: the sample at which the supply-loss comparator becomes CLEAR (R180). -/
def execSupplyLossClear (millivolts : Nat) (s : State) : Host.Outcome State Fault Refusal :=
  occurring (s.sup.tripped && !(s.supplySampled millivolts).sup.tripped) (s.supplySampled millivolts) s

/-- LOW_SUPPLY_SET: the sample at which LOW_SUPPLY becomes set (R181). -/
def execLowSupplySet (millivolts : Nat) (s : State) : Host.Outcome State Fault Refusal :=
  occurring (!s.sup.low && (s.sampleWarning millivolts).sup.low) (s.supplySampled millivolts) s

/-- LOW_SUPPLY_CLEAR: the sample at which LOW_SUPPLY becomes clear (R181). -/
def execLowSupplyClear (millivolts : Nat) (s : State) : Host.Outcome State Fault Refusal :=
  occurring (s.sup.low && !(s.sampleWarning millivolts).sup.low) (s.supplySampled millivolts) s

/-! ## The reset line (R182) -/

/-- RST_N_ASSERT (R182). -/
def execRstNAssert (s : State) : Host.Outcome State Fault Refusal :=
  go ((s.setSup { s.sup with rstLow := true }).enterReset .resetLine)

/-- The reset line's level taken high. -/
def State.rstReleased (s : State) : State := s.setSup { s.sup with rstLow := false }

/-- RST_N_RELEASE (R182): the end of a hold when the line was low. -/
def execRstNRelease (s : State) : Host.Outcome State Fault Refusal :=
  go (if s.sup.rstLow then s.rstReleased.holdEnds else s)

/-! ## The retained domain (R183, R185, R186) -/

/-- The ignition filter after one sample (R183). -/
def Sup.sampleIgnition (x : Sup) (high : Bool) : Sup :=
  if high = x.ignHigh then { x with ignCount := 0 }
  else if 4 ≤ x.ignCount + 1 then { x with ignHigh := high, ignCount := 0 }
  else { x with ignCount := x.ignCount + 1 }

/-- The outage counter after one tick: it counts while the start state is OFF or RESET (R185). -/
def State.outageTicked (s : State) : State :=
  if s.operating then s else s.setSup { s.sup with outage := saturatingSucc 255 s.sup.outage }

/-- The ignition level has become HIGH: the hold by OFF ends into RESET, which a release follows when nothing else
holds the part (R183, R184). -/
def State.offEnds (s : State) : State :=
  if s.sup.start = .off then (s.setSup { s.sup with start := .reset }).holdEnds else s

/-- IGN is sampled; a change of the level enters or leaves OFF (R183). -/
def State.ignitionSampled (s : State) (high : Bool) : State :=
  let t := s.setSup (s.sup.sampleIgnition high)
  if s.sup.ignHigh && !t.sup.ignHigh then t.enterOff
  else if !s.sup.ignHigh && t.sup.ignHigh then t.offEnds
  else t

/-- One tick of the retained domain: the outage counter by the start state before it, then the ignition sample
(log 20). -/
def State.retainedTick (s : State) (high : Bool) : State := s.outageTicked.ignitionSampled high

/-- RETAINED_MS_TICK (R183, R185). -/
def execRetainedMsTick (ignHigh : Bool) (s : State) : Host.Outcome State Fault Refusal := go (s.retainedTick ignHigh)

/-- IGNITION_OFF: the low sample at which the ignition level becomes LOW (R183). -/
def execIgnitionOff (s : State) : Host.Outcome State Fault Refusal :=
  occurring (s.sup.ignHigh && !(s.retainedTick false).sup.ignHigh) (s.retainedTick false) s

/-- IGNITION_ON: the high sample at which the ignition level becomes HIGH (R183). -/
def execIgnitionOn (s : State) : Host.Outcome State Fault Refusal :=
  occurring (!s.sup.ignHigh && (s.retainedTick true).sup.ignHigh) (s.retainedTick true) s

/-- The retained domain's values at its power-up (R183, R185, R186). The check word of the lost record stays: the model's
choice (log 39). -/
def Sup.retainedPowered (x : Sup) : Sup :=
  { x with
    ignHigh := false
    ignCount := 0
    entry := .ignition
    retentionLost := true
    outage := 255
    record := { x.record with contents := none, valid := false }
    rewrite := none }

/-- RETAINED_DOMAIN_POWER_UP (R186): the ignition level is LOW, so the part is in OFF (R184). -/
def execRetainedDomainPowerUp (s : State) : Host.Outcome State Fault Refusal :=
  go (s.stopped.setSup { s.stopped.sup.retainedPowered with start := .off })

/-- MAIN_DOMAIN_POWER_UP (R180): the supply-loss comparator begins TRIPPED with count 0. A part that was operating
has lost its supply (log 22). -/
def execMainDomainPowerUp (s : State) : Host.Outcome State Fault Refusal :=
  go ((s.setSup { s.sup with tripped := true, tripCount := 0 }).enterReset .supplyLoss)

/-! ## LOADING and SENSOR_WAIT (R163, R188, R189) -/

/-- A wheel's speed with the working copy's circumference and tooth count (R9, R17). -/
def WheelInput.reloaded (x : WheelInput) (c : WorkingCopy) (w : Wheel) : WheelInput :=
  match x.period with
  | none => x
  | some p => { x with speed := wheelSpeed c w p }

/-- A line takes the working copy's full scale and its target code afresh as a delivery (R139). -/
def CeilingLine.reloaded (l : CeilingLine) (fullScale : Nat) : CeilingLine :=
  { l with fullScale := fullScale }.deliver l.carried

/-- The store after the load: working copy, DEFAULTED mask, lock state (R163, R165). -/
def Cst.loaded (x : Cst) : Cst :=
  { x with working := x.flash.load, defaulted := x.flash.defaulted, lock := x.flash.lockState }

/-- The grip budget unit after the load of a cold start (R62). -/
def Gbu.loadedCold (x : Gbu) (c : WorkingCopy) : Gbu :=
  { x with settings := ⟨c.defaultProfile, none, c.defaultClass, c.defaultPolicy⟩ }

/-- The ride settings after the load (R62, R63). -/
def State.loadedGbu (s : State) (c : WorkingCopy) : Gbu :=
  match s.sup.kind with
  | .cold => s.gbu.loadedCold c
  | .warm => s.gbu

/-- The grant engine after the load: a cold start's policy in use is that of the ride settings (R103). -/
def State.loadedGre (s : State) (c : WorkingCopy) : Gre :=
  match s.sup.kind with
  | .cold => { s.gre with policy := c.defaultPolicy }
  | .warm => s.gre

/-- The friction learning unit after the load: the nominal of the default profile after a cold start, the restored
list against the restored profile's nominal after a warm one (R73, R74). -/
def State.loadedFlu (s : State) (c : WorkingCopy) : Flu :=
  match s.sup.kind with
  | .cold => { s.flu with learned := c.muNom c.defaultProfile }
  | .warm => { s.flu with learned := learnedFriction c.recoverCycles (c.muNom s.profile) s.flu.events }

/-- The sensor interface after the load (R9, R17). -/
def Sif.reloaded (x : Sif) (c : WorkingCopy) : Sif :=
  { x with wheels := ⟨x.wheels.front.reloaded c .front, x.wheels.rear.reloaded c .rear⟩ }

/-- The lines after the load (R139). -/
def linesReloaded (x : PerLine CeilingLine) (c : WorkingCopy) : PerLine CeilingLine :=
  ⟨x.cld.reloaded (c.fullScale .cld), x.clf.reloaded (c.fullScale .clf), x.clr.reloaded (c.fullScale .clr)⟩

/-- The supervisor after the load: SENSOR_WAIT with its limit of 100,038 microseconds, the working copy's warning
level (R181, R188, R189). -/
def Sup.loaded (x : Sup) (c : WorkingCopy) : Sup :=
  { x with start := .sensorWait, sensorWait := some 100038, level := c.warningLevel }

/-- The load completes (R188). -/
def State.loadCompletes (s : State) : State :=
  if s.sup.start = .loading then
    let c := s.cst.flash.load
    { s with
      sif := s.sif.reloaded c
      leu := { s.leu with cycleTimer := some 0 }
      gbu := s.loadedGbu c
      flu := s.loadedFlu c
      gre := s.loadedGre c
      lines := linesReloaded s.lines c
      cst := s.cst.loaded
      sup := s.sup.loaded c }
  else s

/-- LOAD_COMPLETION (R163). -/
def execLoadCompletion (s : State) : Host.Outcome State Fault Refusal := go s.loadCompletes

/-- SENSOR_WAIT_EXPIRY (R189). -/
def execSensorWaitExpiry (s : State) : Host.Outcome State Fault Refusal :=
  go (if s.sup.start = .sensorWait then s.endSensorWait else s)

end Sys2Proof.Machine
end

