-- ==== Sys2Proof/Machine/Dispatch.lean ====
section
/-! DEFINITION. One arm per command: a direct call of its meaning. -/
namespace Sys2Proof.Machine

/-- The effect of a command on everything but the queue. -/
def exec (i : Instr) (s : State) : Host.Outcome State Fault Refusal :=
  match i with
  | .cycleTimerExpiry => Sys2Proof.Machine.execCycleTimerExpiry s
  | .transactionCompletion block => Sys2Proof.Machine.execTransactionCompletion block s
  | .estimatePublication => Sys2Proof.Machine.execEstimatePublication s
  | .coastCountExpiry => Sys2Proof.Machine.execCoastCountExpiry s
  | .settlingGoodCountReached => Sys2Proof.Machine.execSettlingGoodCountReached s
  | .delayCountExpiry m => Sys2Proof.Machine.execDelayCountExpiry m s
  | .softHoldExpiry m => Sys2Proof.Machine.execSoftHoldExpiry m s
  | .blankingExpiry m => Sys2Proof.Machine.execBlankingExpiry m s
  | .hardAutoEnd m => Sys2Proof.Machine.execHardAutoEnd m s
  | .budgetPublication => Sys2Proof.Machine.execBudgetPublication s
  | .greServiceTake => Sys2Proof.Machine.execGreServiceTake s
  | .reevaluationCompletion => Sys2Proof.Machine.execReevaluationCompletion s
  | .grantCountdownExpiry k => Sys2Proof.Machine.execGrantCountdownExpiry k s
  | .retainedRewriteCompletion => Sys2Proof.Machine.execRetainedRewriteCompletion s
  | .linePeriodStart l => Sys2Proof.Machine.execLinePeriodStart l s
  | .linePulseEnd l => Sys2Proof.Machine.execLinePulseEnd l s
  | .toothCapture w edge => Sys2Proof.Machine.execToothCapture w edge s
  | .wheelRevalidated w edge => Sys2Proof.Machine.execWheelRevalidated w edge s
  | .silenceExpiry w => Sys2Proof.Machine.execSilenceExpiry w s
  | .lockWindowExpiry m => Sys2Proof.Machine.execLockWindowExpiry m s
  | .receiveReadyExpiry p => Sys2Proof.Machine.execReceiveReadyExpiry p s
  | .frameReceived p => Sys2Proof.Machine.execFrameReceived p s
  | .silenceCountExpiry p => Sys2Proof.Machine.execSilenceCountExpiry p s
  | .grantRequest => Sys2Proof.Machine.execGrantRequest s
  | .grantRelease => Sys2Proof.Machine.execGrantRelease s
  | .useReport => Sys2Proof.Machine.execUseReport s
  | .clampClear p => Sys2Proof.Machine.execClampClear p s
  | .shiftNotice => Sys2Proof.Machine.execShiftNotice s
  | .profileSet => Sys2Proof.Machine.execProfileSet s
  | .checkTest p => Sys2Proof.Machine.execCheckTest p s
  | .linkHold p => Sys2Proof.Machine.execLinkHold p s
  | .calOpen => Sys2Proof.Machine.execCalOpen s
  | .calClose => Sys2Proof.Machine.execCalClose s
  | .calRead => Sys2Proof.Machine.execCalRead s
  | .calErase => Sys2Proof.Machine.execCalErase s
  | .calProgram => Sys2Proof.Machine.execCalProgram s
  | .calLock => Sys2Proof.Machine.execCalLock s
  | .calWipe => Sys2Proof.Machine.execCalWipe s
  | .calEraseCompletion left => Sys2Proof.Machine.execCalEraseCompletion left s
  | .calProgramCompletion left => Sys2Proof.Machine.execCalProgramCompletion left s
  | .calLockCompletion left => Sys2Proof.Machine.execCalLockCompletion left s
  | .wipeSectorEraseCompletion left => Sys2Proof.Machine.execWipeSectorEraseCompletion left s
  | .calWipeCompletion left => Sys2Proof.Machine.execCalWipeCompletion left s
  | .transmitGapExpiry p => Sys2Proof.Machine.execTransmitGapExpiry p s
  | .frameSent p => Sys2Proof.Machine.execFrameSent p s
  | .supplyLossTrip millivolts => Sys2Proof.Machine.execSupplyLossTrip millivolts s
  | .supplyLossClear millivolts => Sys2Proof.Machine.execSupplyLossClear millivolts s
  | .lowSupplySet millivolts => Sys2Proof.Machine.execLowSupplySet millivolts s
  | .lowSupplyClear millivolts => Sys2Proof.Machine.execLowSupplyClear millivolts s
  | .rstNAssert => Sys2Proof.Machine.execRstNAssert s
  | .rstNRelease => Sys2Proof.Machine.execRstNRelease s
  | .ignitionOff => Sys2Proof.Machine.execIgnitionOff s
  | .ignitionOn => Sys2Proof.Machine.execIgnitionOn s
  | .retainedDomainPowerUp => Sys2Proof.Machine.execRetainedDomainPowerUp s
  | .loadCompletion => Sys2Proof.Machine.execLoadCompletion s
  | .sensorWaitExpiry => Sys2Proof.Machine.execSensorWaitExpiry s
  | .svcAsserted => Sys2Proof.Machine.execSvcAsserted s
  | .svcReleased => Sys2Proof.Machine.execSvcReleased s
  | .byteReceived p byte stopFault => Sys2Proof.Machine.execByteReceived p byte stopFault s
  | .supplySample millivolts => Sys2Proof.Machine.execSupplySample millivolts s
  | .retainedMsTick ignHigh => Sys2Proof.Machine.execRetainedMsTick ignHigh s
  | .svcSample svcHigh => Sys2Proof.Machine.execSvcSample svcHigh s
  | .mainDomainPowerUp => Sys2Proof.Machine.execMainDomainPowerUp s

end Sys2Proof.Machine
end

