-- ==== Sys2Proof/Machine/Tick.lean ====
section
/-! DEFINITION. One count of the 1 MHz time base: what a step does on an empty queue (log 4). Every running count goes
on by one microsecond and rests at its end; what happens at the end is the row of that expiry. -/
namespace Sys2Proof.Machine

/-- A running count goes on, resting at `limit`. -/
def countUp (limit : Nat) (timer : Option Nat) : Option Nat := timer.map fun t => if t < limit then t + 1 else t

/-- The cycle timer (R20). -/
def Leu.tick (x : Leu) : Leu := { x with cycleTimer := countUp 3999 x.cycleTimer }

/-- A wheel's silence timer (R10). -/
def WheelInput.tick (x : WheelInput) : WheelInput := { x with silence := countUp 100000 x.silence }

/-- The two silence timers. -/
def Sif.tick (x : Sif) : Sif := { x with wheels := x.wheels.map WheelInput.tick }

/-- A line's period timer: it rests at the current code while the level is high, else at 999 (R131). -/
def CeilingLine.tick (l : CeilingLine) : CeilingLine :=
  { l with timer := countUp (if l.high then l.current else 999) l.timer }

/-- A receive assembly's idle time; past 40 microseconds nothing depends on it (R142). -/
def Receiver.tick (r : Receiver) : Receiver := { r with idle := min 40 (r.idle + 1) }

/-- A port's idle time. -/
def Port.tick (x : Port) : Port := { x with receiver := x.receiver.tick }

/-- The time remaining of the operation in flight (R170). -/
def Cst.tick (x : Cst) : Cst :=
  { x with operation := x.operation.map fun o => { o with remaining := o.remaining - 1 } }

/-- The SENSOR_WAIT limit (R189). -/
def Sup.tick (x : Sup) : Sup := { x with sensorWait := x.sensorWait.map fun t => t - 1 }

/-- Every running count of the main domain goes on by one microsecond. -/
def State.ticked (s : State) : State :=
  { s with
    sif := s.sif.tick
    leu := s.leu.tick
    lines := s.lines.map CeilingLine.tick
    ports := s.ports.map Port.tick
    cst := s.cst.tick
    sup := s.sup.tick }

/-- What a step does on an empty queue: one count while the part operates; held, nothing counts. -/
def State.tick (s : State) : State := s.whileOperating s.ticked

end Sys2Proof.Machine
end

