-- ==== Sys2Proof/Safety.lean ====
section
/-! DEFINITION. What a safe part keeps: the laws of the manual that hold at every moment, as tests of a state. Each
docstring names the rule; a clause that only makes the law self-sustaining says so. -/
namespace Sys2Proof.Machine

/-- A signed value lies within a magnitude. -/
def within (limit : Nat) (x : Int) : Bool := decide (x.natAbs ≤ limit)

/-- A test of the contents of the retained record and of the copy a running rewrite writes. -/
def Sup.eachContents (x : Sup) (test : RecordContents → Bool) : Bool := x.record.contents.all test && x.rewrite.all test

/-- A test of every key's value. -/
def eachKey (test : GrantKey → Bool) : Bool := allKeys.all test

/-! ## Grants -/

/-- A grant's forces: granted within requested within 20000, the ramp base not above the granted force (R77, R78); an
UNCONFIRMED grant within its frozen ceiling, its countdown from 1 to 250 (R88, R100). -/
def Grant.bounded (g : Grant) : Bool :=
  decide (g.granted ≤ g.requested) && decide (g.requested ≤ 20000) && decide (g.rampBase ≤ g.granted)
    && (match g.confirmation with
      | .confirmed => true
      | .unconfirmed n _ frozen => decide (1 ≤ n) && decide (n ≤ 250) && decide (g.granted ≤ frozen))

/-- A retained grant's forces. -/
def RetainedGrant.bounded (r : RetainedGrant) : Bool :=
  decide (r.granted ≤ r.requested) && decide (r.requested ≤ 20000)

/-- R77, R78: every grant, in the table and in the retained record, keeps its bounds. -/
def State.grantsBounded (s : State) : Bool :=
  eachKey (fun k => (s.grant k).all Grant.bounded)
    && s.sup.eachContents fun c => eachKey fun k => (c.grants.get k).all RetainedGrant.bounded

/-- The granted forces of a wheel's grants, added up. -/
def wheelSum (w : Wheel) (force : GrantKey → Nat) : Nat := ((allKeys.filter fun k => k.wheel == w).map force).sum

/-- The granted forces on a wheel. -/
def State.grantedOn (s : State) (w : Wheel) : Nat := wheelSum w fun k => (s.grantedForce k).getD 0

/-- The granted forces on a wheel in the retained record. -/
def RecordContents.grantedOn (c : RecordContents) (w : Wheel) : Nat :=
  wheelSum w fun k => ((c.grants.get k).map RetainedGrant.granted).getD 0

/-- A record keeps the budget law. -/
def RecordContents.withinBudget (c : RecordContents) : Bool :=
  decide (c.grantedOn .front ≤ c.budget.force.front) && decide (c.grantedOn .rear ≤ c.budget.force.rear)

/-- R79: the granted forces on each wheel stay within its budget in force. Excused are the service of a re-evaluation,
whose taking puts the new budget in force and whose completion divides it (R81, R83), and a held part, whose lines carry
nothing (R137). The record keeps the law too. -/
def State.withinBudget (s : State) : Bool :=
  (!s.operating || s.gre.engine == .reevaluation
      || (decide (s.grantedOn .front ≤ s.gre.budget.force.front)
        && decide (s.grantedOn .rear ≤ s.gre.budget.force.rear)))
    && s.sup.eachContents RecordContents.withinBudget

/-- R98: while a monitor is in HARD, every grant it affects has granted force 0; the record agrees. -/
def State.hardHoldsNothing (s : State) : Bool :=
  eachKey (fun k => (s.monitor k.monitor).state != .hard || (s.grantedForce k).getD 0 == 0)
    && s.sup.eachContents fun c => eachKey fun k =>
      (c.monitors.get k.monitor).state != .hard || ((c.grants.get k).map RetainedGrant.granted).getD 0 == 0

/-! ## Ceiling lines -/

/-- The key a line carries (R129). -/
def keyOf : LineName → GrantKey
  | .cld => .eRearDrive
  | .clf => .bFrontBrake
  | .clr => .bRearBrake

/-- R132: a line encodes no more than the granted force of the grant it carries. What sustains it: the carried force
is that granted force, the preset code is its target code, the current code is not above the preset, and the level is
high only up to the current code. -/
def State.lineTruthful (s : State) (l : LineName) : Bool :=
  decide (encodedForce (s.line l).fullScale (s.line l).current ≤ (s.grantedForce (keyOf l)).getD 0)
    && (s.line l).carried == s.grantedForce (keyOf l)
    && (s.line l).preset == targetCode (s.line l).fullScale (s.line l).carried
    && decide ((s.line l).current ≤ (s.line l).preset)
    && (match (s.line l).timer with
      | none => false
      | some n => !(s.line l).high || decide (n ≤ (s.line l).current))

/-- R137: a line held low, code 0, timer stopped, carried force absent. -/
def CeilingLine.isHeld (l : CeilingLine) : Bool :=
  l.current == 0 && l.preset == 0 && l.carried == none && l.timer == none && !l.high

/-- R132 while the part operates, R137 while it is held. -/
def State.linesTruthful (s : State) : Bool :=
  [LineName.cld, .clf, .clr].all fun l => if s.operating then s.lineTruthful l else (s.line l).isHeld

/-! ## Start states -/

/-- R184: the start state follows from the ignition level, the supply-loss comparator and RST_N. The SENSOR_WAIT limit
runs exactly in SENSOR_WAIT (R189); the cycle timer runs exactly in SENSOR_WAIT and RUNNING (R20, R42). -/
def State.startAgrees (s : State) : Bool :=
  (match s.sup.start with
    | .off => !s.sup.ignHigh
    | .reset => s.sup.ignHigh && (s.sup.tripped || s.sup.rstLow)
    | .loading | .sensorWait | .running => s.sup.ignHigh && !s.sup.tripped && !s.sup.rstLow)
    && (s.sup.sensorWait.isSome == (s.sup.start == .sensorWait))
    && (s.leu.cycleTimer.isSome == (s.sup.start == .sensorWait || s.sup.start == .running))

/-! ## Links -/

/-- A port's queues: at most four requests and four replies (R145, R152), a status slot's payload of 30 to 54 bytes
(R154). What sustains the reply queue's bound: an outstanding head that a reply answers has a free place (R146). -/
def Port.capacitiesKept (x : Port) : Bool :=
  decide (x.queue.length ≤ 4) && decide (x.replies.length ≤ 4) && decide (x.receiver.bytes.length ≤ 31)
    && decide (x.checkTest ≤ 8) && decide (x.badFrames ≤ 255) && decide (x.discards ≤ 255)
    && x.slot.all (fun payload => decide (30 ≤ payload.length) && decide (payload.length ≤ 54))
    && (!x.outstanding || (match x.queue with
      | [] => false
      | r :: _ => r.kind == .useReport || decide (x.replies.length < 4)))

/-- Port C, while UP, holds no reply that was handed over while it was not (R195). -/
def State.awayRepliesGone (s : State) : Bool :=
  (s.port .c).state != .up || (s.port .c).replies.all fun r => !r.away

/-- The kind of the request an operation in flight serves (R170). -/
def FlashOperation.kind : FlashOperation → MessageKind
  | .erase _ => .calErase
  | .program _ _ _ => .calProgram
  | .lock => .calLock
  | .wipe _ _ => .calWipe

/-- The request of an operation in flight is outstanding at Port C (R147, R170). -/
def State.operationOutstanding (s : State) : Bool :=
  s.cst.operation.all fun o => (s.served .c o.operation.kind).isSome

/-- R145, R152: every port keeps its capacities. -/
def State.capacitiesKept (s : State) : Bool :=
  (s.port .e).capacitiesKept && (s.port .b).capacitiesKept && (s.port .c).capacitiesKept && s.operationOutstanding
    && s.awayRepliesGone

/-! ## Learning, estimate -/

/-- A slip event's ranges (04, The slip event record). -/
def SlipEvent.inRange (e : SlipEvent) : Bool :=
  decide (100 ≤ e.muObs) && decide (e.muObs ≤ 1300) && decide (e.age ≤ 65535)

/-- A list of slip events: at most eight, each in range (R70). -/
def eventsKept (events : List SlipEvent) : Bool := decide (events.length ≤ 8) && events.all SlipEvent.inRange

/-- R66, R68, R70, R72: the friction learning unit's bounds. -/
def State.learningKept (s : State) : Bool :=
  eventsKept s.flu.events && decide (s.flu.triggers.length ≤ 6)
    && decide (100 ≤ s.flu.learned) && decide (s.flu.learned ≤ 1300)
    && eachKey (fun k => decide (s.flu.reports.get k ≤ 25))
    && s.sup.eachContents fun c => eventsKept c.events

/-- An inertial record after R5's clamps, as far as the filter reads it. -/
def Inertial.inRange (r : Inertial) : Bool :=
  within 30000 r.roll && within 30000 r.pitch && within 30000 r.yaw && within 4000 r.ax && within 4000 r.ay
    && within 4000 r.az

/-- The sensor interface's ranges (R5, R9, R15). -/
def Sif.inRange (x : Sif) : Bool :=
  x.sample.inertial.inRange && x.lastValid.all Inertial.inRange && decide (x.invalidRun ≤ 255)
    && decide (x.wheels.front.speed ≤ 9000) && decide (x.wheels.rear.speed ≤ 9000) && decide (x.vRef ≤ 9000)

/-- An estimate record's ranges (R24, R28, R30, R38). -/
def EstimateRecord.inRange (r : EstimateRecord) : Bool :=
  within 6000 r.lean && within 6000000 r.acc && decide (100 ≤ r.u) && decide (r.u ≤ 6000) && within 6000 r.refLean
    && within 4000 r.aF

/-- R24, R30, R31, R38: the estimate stays in its ranges, the counts below their ends. -/
def State.estimateInRange (s : State) : Bool :=
  s.sif.inRange && within 6000000 s.leu.acc && decide (100 ≤ s.leu.u) && decide (s.leu.u ≤ 6000)
    && within 4000 s.leu.aF && decide (s.leu.good ≤ 250) && decide (s.leu.coast ≤ 124)
    && s.leu.published.all (fun p => p.estimate.inRange)
    && s.sup.eachContents fun c => within 6000000 c.acc

/-! ## The store -/

/-- What sustains R165: an operation that changes a parameter sector's bytes, a wipe apart, runs only while the part
is in RUNNING and the store is UNLOCKED. -/
def State.programsUnlocked (s : State) : Bool :=
  s.cst.operation.all fun o =>
    s.running && (match o.operation with
      | .erase _ | .program _ _ _ => s.cst.lock == .unlocked
      | .lock | .wipe _ _ => true)

/-! ## Frames: what the part takes as valid, what a STATUS frame says -/

/-- A row of R144 and R198: a message kind with its code, the ports that accept it and its payload lengths. -/
structure AcceptedKind where
  kind : MessageKind
  code : Nat
  ports : List PortName
  lengths : List Nat

/-- R144, R198: the kinds that some port accepts. STATUS and REPLY are sent by the part only. -/
def acceptedKinds : List AcceptedKind :=
  [⟨.grantRequest, 0x20, [.e, .b], [5]⟩, ⟨.grantRelease, 0x21, [.e, .b], [2]⟩, ⟨.useReport, 0x22, [.e, .b], [4]⟩,
    ⟨.clampClear, 0x30, [.e, .b, .c], [1]⟩, ⟨.shiftNotice, 0x31, [.e], [0]⟩, ⟨.profileSet, 0x40, [.c], [1, 3]⟩,
    ⟨.calOpen, 0x50, [.c], [0]⟩, ⟨.calErase, 0x51, [.c], [1]⟩, ⟨.calProgram, 0x52, [.c], List.range' 3 16⟩,
    ⟨.calRead, 0x53, [.c], [3]⟩, ⟨.calLock, 0x54, [.c], [0]⟩, ⟨.calWipe, 0x55, [.c], [0]⟩,
    ⟨.calClose, 0x56, [.c], [0]⟩, ⟨.checkTest, 0x60, [.e, .b, .c], [1]⟩, ⟨.linkHold, 0x61, [.e, .b, .c], [0]⟩]

/-- R143: the bytes of an ended frame pass the four tests at a port, as a request: no stop fault; a kind of the table with
its code, the port's right to it and one of its lengths; that length and payload; the check byte, the XOR of all bytes
before it, XOR 0x5A; no byte counted but these. -/
abbrev Receiver.validAs (r : Receiver) (p : PortName) (q : Request) : Prop :=
  r.fault = false ∧ r.count = r.bytes.length
    ∧ ∃ row ∈ acceptedKinds, row.kind = q.kind ∧ p ∈ row.ports ∧ q.payload.length ∈ row.lengths
      ∧ r.bytes = byteOf row.code :: byteOf q.payload.length :: (q.payload
          ++ [(byteOf row.code :: byteOf q.payload.length :: q.payload).foldl (fun x y => x ^^^ y) 0 ^^^ 0x5A])

/-- `width` bits of a byte from bit `low` on, as a number. -/
def bitsOf (b : Byte) (low width : Nat) : Nat := b.toNat / 2 ^ low % 2 ^ width

/-- The grants a STATUS frame to a port lists, in the order of R76: those held through Port E or Port B, and every grant
for Port C (R106). -/
def State.listedGrants (s : State) (p : PortName) : List (GrantKey × Grant) :=
  (match p with
    | .e => [GrantKey.eRearDrive, .eRearBrake]
    | .b => [.bFrontBrake, .bRearBrake]
    | .c => [.eRearDrive, .eRearBrake, .bFrontBrake, .bRearBrake]).filterMap fun k => (s.grant k).map fun g => (k, g)

/-- R200: six bytes are the entry of a grant: key, requested and granted force; state, RECOVERING, OVERUSE, UNCONFIRMED,
its cause, and no other bit. -/
def Grant.reportedBy (g : Grant) (k : GrantKey) (entry : List Byte) : Prop :=
  entry.length = 6 ∧ (entry.getD 0 0).toNat = k.code
    ∧ word16 (entry.getD 1 0) (entry.getD 2 0) = BitVec.ofNat 16 g.requested
    ∧ word16 (entry.getD 3 0) (entry.getD 4 0) = BitVec.ofNat 16 g.granted
    ∧ bitsOf (entry.getD 5 0) 0 2 = g.state.code ∧ bitsOf (entry.getD 5 0) 2 1 = bitOf g.recovering
    ∧ bitsOf (entry.getD 5 0) 3 1 = bitOf g.overuse
    ∧ (g.confirmation = .confirmed → bitsOf (entry.getD 5 0) 4 2 = 0)
    ∧ (∀ n frozen, g.confirmation = .unconfirmed n .linkLost frozen → bitsOf (entry.getD 5 0) 4 2 = 1)
    ∧ (∀ n frozen, g.confirmation = .unconfirmed n .carried frozen → bitsOf (entry.getD 5 0) 4 2 = 3)
    ∧ bitsOf (entry.getD 5 0) 6 2 = 0

/-- R106, R154, R200: a payload is that of a STATUS frame to a port as the part stands: the 30 fixed bytes field by field,
the bits without a name 0, then one entry for each grant the port lists. The estimate record is that of the budget-in-force
epoch, which the model keeps beside it (log 13). -/
def State.reportedBy (s : State) (p : PortName) (payload : List Byte) : Prop :=
  let b (i : Nat) : Byte := payload.getD i 0
  word16 (b 0) (b 1) = s.gre.budget.epoch
    ∧ bitsOf (b 2) 7 1 = bitOf (s.sup.kind == .warm) ∧ bitsOf (b 2) 6 1 = 0 ∧ bitsOf (b 2) 4 2 = s.sup.cause.code
    ∧ bitsOf (b 2) 2 2 = 0 ∧ bitsOf (b 2) 1 1 = bitOf (s.sup.start == .running) ∧ bitsOf (b 2) 0 1 = bitOf s.sup.low
    ∧ (∀ r, s.gre.reported = some r →
      bitsOf (b 3) 0 3 = r.confidence.code ∧ bitsOf (b 3) 3 1 = bitOf r.leanSat ∧ bitsOf (b 3) 4 2 = r.refKind.code
        ∧ bitsOf (b 3) 6 1 = bitOf r.vRefValid ∧ bitsOf (b 3) 7 1 = 0
        ∧ word16 (b 4) (b 5) = BitVec.ofInt 16 r.lean ∧ word16 (b 6) (b 7) = BitVec.ofNat 16 r.u
        ∧ word16 (b 8) (b 9) = BitVec.ofInt 16 r.refLean ∧ word16 (b 10) (b 11) = BitVec.ofNat 16 r.vRef
        ∧ word16 (b 12) (b 13) = BitVec.ofInt 16 r.aF)
    ∧ word16 (b 14) (b 15) = BitVec.ofNat 16 s.gre.budget.force.front
    ∧ word16 (b 16) (b 17) = BitVec.ofNat 16 s.gre.budget.force.rear
    ∧ word16 (b 18) (b 19) = BitVec.ofNat 16 s.gre.budget.mu
    ∧ bitsOf (b 20) 0 2 = s.gbu.settings.profile.code
    ∧ (s.gbu.settings.pending = none → bitsOf (b 20) 2 2 = 3 ∧ bitsOf (b 20) 4 1 = 0)
    ∧ (∀ q, s.gbu.settings.pending = some q →
      bitsOf (b 20) 2 2 = q.profile.code ∧ bitsOf (b 20) 4 1 = bitOf (q.kind == .deferred))
    ∧ bitsOf (b 20) 5 3 = 0
    ∧ bitsOf (b 21) 0 2 = s.gbu.settings.cls.code ∧ bitsOf (b 21) 2 2 = s.gbu.settings.policy.code
    ∧ bitsOf (b 21) 4 4 = 0
    ∧ (∀ m i, (m, i) ∈ [(MonitorName.rearSpin, 22), (.rearLock, 23), (.frontLock, 24)] →
      bitsOf (b i) 0 3 = (s.monitor m).state.code ∧ bitsOf (b i) 3 1 = 0
        ∧ bitsOf (b i) 4 2 = (s.monitor m).trigger.code ∧ bitsOf (b i) 6 2 = 0)
    ∧ bitsOf (b 25) 0 1 = bitOf s.cst.defaulted.s0 ∧ bitsOf (b 25) 1 1 = bitOf s.cst.defaulted.s1
    ∧ bitsOf (b 25) 2 1 = bitOf s.cst.defaulted.s2 ∧ bitsOf (b 25) 3 1 = bitOf (s.cst.lock == .locked)
    ∧ bitsOf (b 25) 4 1 = bitOf (s.cst.session == .opened) ∧ bitsOf (b 25) 5 3 = 0
    ∧ (s.cst.last = none → b 26 = 0 ∧ b 27 = 0)
    ∧ (∀ kind code, s.cst.last = some (kind, code) → (b 26).toNat = kind.code ∧ (b 27).toNat = code.code)
    ∧ b 28 = BitVec.ofNat 8 (s.port p).badFrames ∧ b 29 = BitVec.ofNat 8 (s.port p).discards
    ∧ payload.length = 30 + 6 * (s.listedGrants p).length
    ∧ ∀ (i : Nat) k (g : Grant), (s.listedGrants p)[i]? = some (k, g) → g.reportedBy k ((payload.drop (30 + 6 * i)).take 6)

/-! ## Entries and releases -/

/-- R19, R42, R64, R75, R105, R127, R137, R161, R177, R184, R191: what an entry into OFF or RESET leaves: the start state
and the entry cause; the lines held; the ports' traffic dropped; nothing in flight, nothing waiting, no timer running. -/
def State.stoppedWith (t : State) (start : StartState) (entry : EntryCause) : Prop :=
  t.sup.start = start ∧ t.sup.entry = entry ∧ (∀ l, (t.line l).isHeld = true)
    ∧ (∀ p, (t.port p).queue = [] ∧ (t.port p).outstanding = false ∧ (t.port p).replies = []
        ∧ (t.port p).slot = none ∧ (t.port p).transmitter = .free
        ∧ (t.port p).receiver = ⟨.hunting, [], 0, false, 0⟩)
    ∧ t.sif.transaction = false ∧ t.sif.mosi = [] ∧ t.leu.cycleTimer = none ∧ t.leu.work = .idle
    ∧ t.gbu.working = false ∧ t.gbu.read = none ∧ t.flu.triggers = [] ∧ t.gre.engine = .free ∧ t.gre.waiting = none
    ∧ (∀ m, (t.monitor m).window = none) ∧ t.cst.operation = none ∧ t.sup.rewrite = none ∧ t.sup.sensorWait = none

/-- The sector an operation acts on: the one an erase, a program from a byte of the sector on, a lock or the next erase
of a wipe is about to change (R172, R173, R175, R176). -/
def FlashOperation.target : FlashOperation → Option Sector
  | .erase k => some k
  | .program k offset _ => if offset < 256 then some k else none
  | .lock => some .s3
  | .wipe erased _ => wipeSector erased

/-- What of `s` an entry into OFF or RESET leaves as it was: everything `stoppedWith` does not name, but for a flash
operation in flight, whose sector fails its check and every other byte of which stays (R177). The supervisor, which
decides the entry, is not spoken of here. -/
def State.standsFrom (t s : State) : Prop :=
  t.sif = { s.sif with transaction := false, mosi := [] } ∧ t.leu = { s.leu with cycleTimer := none, work := .idle }
    ∧ t.gbu = { s.gbu with working := false, read := none } ∧ t.flu = { s.flu with triggers := [] }
    ∧ t.gre = { s.gre with engine := .free, waiting := none }
    ∧ (∀ m, t.monitor m = { s.monitor m with window := none })
    ∧ (∀ l, t.line l
        = { s.line l with current := 0, preset := 0, carried := none, timer := none, high := false })
    ∧ (∀ p, t.port p = { s.port p with
        receiver := ⟨.hunting, [], 0, false, 0⟩, queue := [], outstanding := false, replies := [], slot := none,
        transmitter := .free })
    ∧ t.cst = { s.cst with flash := t.cst.flash, operation := none }
    ∧ (s.cst.operation = none → t.cst.flash = s.cst.flash)
    ∧ (s.cst.flash.wf = true → ∀ o k, s.cst.operation = some o → o.operation.target = some k →
        t.cst.flash.passes k = false
          ∧ ∀ a, a < k.base ∨ k.base + 256 ≤ a → t.cst.flash.read a = s.cst.flash.read a)

/-- R191: the retained record as an entry leaves it: as it was, or, where a rewrite was cut short, without contents and
without its valid mark. Its check word then stays as it was (log 39). -/
def Sup.recordStopped (x : Sup) : RetainedRecord :=
  if x.rewrite = none then x.record else { x.record with contents := none, valid := false }

/-- R181, R184, R187: the supervisor's values that a release sets alike at a cold and at a warm start: LOADING, its cause,
LOW_SUPPLY clear, the built-in warning level; the flag of lost retention is cleared, and the record stands. -/
def Sup.releasedFrom (x y : Sup) (kind : StartKind) : Prop :=
  x.start = .loading ∧ x.kind = kind ∧ x.low = false ∧ x.lowCount = 0 ∧ x.level = .v90
    ∧ x.cause = (if y.retentionLost then .powerOn else y.entry.startCause)
    ∧ x.retentionLost = false ∧ x.entry = y.entry ∧ x.record = y.record

/-- R17, R40, R62, R73, R103, R125, R138, R159, R178, R181, R184, R187: what a cold release from `s` leaves. The values of
`State.reset` in every block but the store's flash and the supervisor's retained domain and comparator. -/
def State.coldStarted (t s : State) : Prop :=
  t.sif = State.reset.sif ∧ t.leu = State.reset.leu ∧ t.gbu = State.reset.gbu ∧ t.flu = State.reset.flu
    ∧ t.gre = State.reset.gre ∧ t.slm = State.reset.slm ∧ t.lines = State.reset.lines ∧ t.ports = State.reset.ports
    ∧ t.cst = { State.reset.cst with flash := s.cst.flash } ∧ t.sup.releasedFrom s.sup .cold

/-- R63: ride settings are those of a record's codes, a code outside its enumeration replaced by its built-in default. That
a pending profile so replaced keeps its kind is the model's choice (log 34). -/
def RideSettings.restores (r : RideSettings) (c : RetainedSettings) : Prop :=
  r.profile = (profileOfCode c.profile).getD .touring ∧ r.cls = (classOfCode c.cls).getD .solo
    ∧ r.policy = (policyOfCode c.policy).getD .brakeFirst
    ∧ r.pending = c.pending.map fun q => ⟨(profileOfCode q.1).getD .touring, q.2⟩

/-- R104, R126: the grant that a warm start makes of a record's: its forces and flags, ramp base at its force, UNCONFIRMED,
CARRIED, countdown 250, frozen at its force; where its monitor stood in SOFT, RECOVERING, with its state derived afresh. -/
def RetainedGrant.carried (r : RetainedGrant) (soft : Bool) : Grant where
  requested := r.requested
  granted := r.granted
  rampBase := r.granted
  applied := r.applied
  state := if soft then (if r.granted = r.requested then .full else .short) else r.state
  recovering := r.recovering || soft
  overuse := r.overuse
  confirmation := .unconfirmed 250 .carried r.granted

/-- R17, R41, R63, R74, R104, R126, R139, R160, R178, R181, R184, R187, R192: what a warm release from `s` leaves, from a
record's contents. What the record does not restore is at the value of `State.reset`, the latest estimate record among it
(log 36). -/
def State.warmStarted (t s : State) (c : RecordContents) : Prop :=
  t.sif = State.reset.sif
    ∧ t.leu = { State.reset.leu with
        epoch := c.epoch
        acc := if c.u = 6000 then 0 else c.acc
        conf := if c.u = 6000 then .unset else .settling
        u := if c.u = 6000 then 6000 else min 3000 (500 + s.sup.outage * 25 / 4) }
    ∧ t.gbu.settings.restores c.settings ∧ t.gbu = { State.reset.gbu with settings := t.gbu.settings }
    ∧ t.flu = { State.reset.flu with
        events := c.events.map fun e => { e with age := min 65535 (e.age + s.sup.outage / 4) } }
    ∧ (∀ k, t.grant k = (c.grants.get k).map fun r => r.carried ((c.monitors.get k.monitor).state == .soft))
    ∧ t.gre = { State.reset.gre with grants := t.gre.grants, budget := c.budget, policy := t.gbu.settings.policy }
    ∧ (∀ m, t.monitor m
        = if (c.monitors.get m).state = .hard then
            { State.reset.monitor m with state := .hard, trigger := (c.monitors.get m).trigger }
          else State.reset.monitor m)
    ∧ (∀ l, t.line l
        = ⟨targetCode (builtInVehicle.fullScale.get l) (t.grantedForce (keyOf l)),
            targetCode (builtInVehicle.fullScale.get l) (t.grantedForce (keyOf l)), t.grantedForce (keyOf l), some 0,
            builtInVehicle.fullScale.get l, true⟩)
    ∧ t.ports = State.reset.ports ∧ t.cst = { State.reset.cst with flash := s.cst.flash }
    ∧ t.sup.releasedFrom s.sup .warm ∧ t.sup.outage = s.sup.outage

end Sys2Proof.Machine

namespace Sys2Proof

/-- The commands of the supervisor's senses: the supply, the reset line, the ignition, power. A hold or a release can
fall at each. -/
def Instr.isSupervision : Instr → Bool
  | .supplySample _ | .supplyLossTrip _ | .supplyLossClear _ | .lowSupplySet _ | .lowSupplyClear _
  | .rstNAssert | .rstNRelease | .retainedMsTick _ | .ignitionOff | .ignitionOn | .retainedDomainPowerUp
  | .mainDomainPowerUp => true
  | _ => false

/-- The completions of flash operations. -/
def Instr.isFlashCompletion : Instr → Bool
  | .calEraseCompletion _ | .calProgramCompletion _ | .calLockCompletion _ | .wipeSectorEraseCompletion _
  | .calWipeCompletion _ => true
  | _ => false

end Sys2Proof
end

