-- ==== Sys2Proof/WellFormed.lean ====
section
/-! DEFINITION. The side conditions on a command's operands that its types do not carry. -/
namespace Sys2Proof

/-- What the array left at `n` target bytes is `n` bytes. -/
def ArrayLeft.fits (left : ArrayLeft) (n : Nat) : Bool :=
  match left with
  | none => true
  | some bytes => bytes.length == n

/-- What the array left after a CAL_PROGRAM is 1 to 16 bytes (R173). -/
def ArrayLeft.fitsProgram (left : ArrayLeft) : Bool :=
  match left with
  | none => true
  | some bytes => (1 ≤ bytes.length) && (bytes.length ≤ 16)

/-- A command is well formed when its operands are ones the part can meet: a lock window belongs to a lock monitor
(R120), an array that failed left one byte per target byte (R172, R173, R175, R176). -/
def Instr.wellFormed : Instr → Bool
  | .lockWindowExpiry m => m != .rearSpin
  | .calEraseCompletion left => left.fits 256
  | .calProgramCompletion left => left.fitsProgram
  | .calLockCompletion left => left.fits 1
  | .wipeSectorEraseCompletion left => left.fits 256
  | .calWipeCompletion left => left.fits 256
  | .cycleTimerExpiry | .transactionCompletion _ | .estimatePublication | .coastCountExpiry
  | .settlingGoodCountReached | .delayCountExpiry _ | .softHoldExpiry _ | .blankingExpiry _ | .hardAutoEnd _
  | .budgetPublication | .greServiceTake | .reevaluationCompletion | .grantCountdownExpiry _
  | .retainedRewriteCompletion | .linePeriodStart _ | .linePulseEnd _ | .toothCapture _ _
  | .wheelRevalidated _ _ | .silenceExpiry _ | .receiveReadyExpiry _ | .frameReceived _
  | .silenceCountExpiry _ | .grantRequest | .grantRelease | .useReport | .clampClear _ | .shiftNotice
  | .profileSet | .checkTest _ | .linkHold _ | .calOpen | .calClose | .calRead | .calErase | .calProgram
  | .calLock | .calWipe | .transmitGapExpiry _ | .frameSent _ | .supplyLossTrip _ | .supplyLossClear _
  | .lowSupplySet _ | .lowSupplyClear _ | .rstNAssert | .rstNRelease | .ignitionOff | .ignitionOn
  | .retainedDomainPowerUp | .loadCompletion | .sensorWaitExpiry | .svcAsserted | .svcReleased
  | .byteReceived _ _ _ | .supplySample _ | .retainedMsTick _ | .svcSample _ | .mainDomainPowerUp => true

end Sys2Proof
end

