-- ==== Sys2Proof/Certificates/Slice0/Obligations.lean ====
section
/-! DEFINITION. The statements for the provers. Each names the rules of spec/ it rests on; OBLIGATIONS.json says which
of them state a rule whole. In a frame, `t = { s with a := t.a }` says that nothing but `a` changed. -/

section

open Sys2Proof Sys2Proof.Machine

/-! ## The block as a whole -/

/-- A step runs the command at the front of the queue with the queue's rest; on an empty queue one microsecond passes
(the model's choice, log 4). -/
def Obligations.StepRunsFront : Prop :=
  (∀ (c : Instr) (rest : List Instr) (s : State), step (s.setPending (c :: rest)) = exec c (s.setPending rest))
    ∧ ∀ s : State, s.pending = [] → step s = .next s.tick

/-- Every command completes in every state, and none touches the queue of commands, which is the model's own. That a
command whose event has no ground in the state leaves the state as it was is the model's reading (log 3). -/
def Obligations.EveryCommandCompletes : Prop := ∀ c s, ∃ t, exec c s = .next t ∧ t.pending = s.pending

/-- R184: a part held in OFF or RESET is changed only by what its supervisor senses: the supply, the reset line, the
ignition, and power itself. -/
def Obligations.HeldPartIgnores : Prop :=
  ∀ c s, s.operating = false → c.isSupervision = false → exec c s = .next s

/-- Which commands may raise a granted force: a re-evaluation's completion, a served request, and the events at which a
release can fall (R78, R81, R98, R99, R104). -/
def Obligations.ForcesRiseOnlyWhereGranted : Prop :=
  ∀ c s t k, exec c s = .next t → c.isSupervision = false →
    c ≠ .reevaluationCompletion → (∀ j, c ≠ .grantCountdownExpiry j) → c ≠ .grantRequest →
    (t.grantedForce k).getD 0 ≤ (s.grantedForce k).getD 0

/-- R163, R170, R177: the working copy changes at a release and at the load's completion alone, and no byte of flash
changes but at a completion of a flash operation or where one is cut short. -/
def Obligations.StoreFrame : Prop :=
  (∀ c s t, exec c s = .next t → c.isSupervision = false → c ≠ .loadCompletion → t.cst.working = s.cst.working)
  ∧ (∀ c s t a, exec c s = .next t → c.isSupervision = false → c.isFlashCompletion = false →
    t.cst.flash.read a = s.cst.flash.read a)

/-- After `State.reset` every law that the steps keep holds: the values are those of a cold release with cause POWER_ON
(log 5). -/
def Obligations.ResetKeepsLaws : Prop :=
  State.reset.cst.flash.wf = true ∧ State.reset.grantsBounded = true ∧ State.reset.withinBudget = true
    ∧ State.reset.hardHoldsNothing = true ∧ State.reset.linesTruthful = true ∧ State.reset.startAgrees = true
    ∧ State.reset.capacitiesKept = true ∧ State.reset.learningKept = true ∧ State.reset.estimateInRange = true
    ∧ State.reset.programsUnlocked = true

/-! ## Laws that every step keeps -/

/-- The flash keeps its canonical form: the model's own form of the memory (log 30), with addresses strictly rising and
below 1024, no entry erased, and an unlisted byte reading 0xFF. -/
def Obligations.FlashCanonicalKept : Prop := ∀ s t, step s = .next t → s.cst.flash.wf = true → t.cst.flash.wf = true

/-- R77, R78, R88: granted within requested within 20000, ramp base within granted, frozen ceilings respected. -/
def Obligations.GrantsBoundedKept : Prop :=
  ∀ s t, step s = .next t → s.grantsBounded = true → t.grantsBounded = true

/-- R79, R81, R83: the granted forces on each wheel stay within its budget in force, but for the service of a
re-evaluation, whose taking puts the new budget in force and whose completion divides it, and for a held part, whose
lines carry nothing. The retained record keeps the law too. -/
def Obligations.BudgetLawKept : Prop := ∀ s t, step s = .next t → s.withinBudget = true → t.withinBudget = true

/-- R98: under a monitor in HARD no affected grant holds force. -/
def Obligations.HardClampKept : Prop :=
  ∀ s t, step s = .next t → s.hardHoldsNothing = true → t.hardHoldsNothing = true

/-- R132, R137: no line encodes more than the grant it carries; a held line is low. -/
def Obligations.LinesTruthfulKept : Prop :=
  ∀ s t, step s = .next t → s.linesTruthful = true → t.linesTruthful = true

/-- R184, R189, R20: the start state follows from its inputs; the two timers run where they are to. -/
def Obligations.StartStateKept : Prop := ∀ s t, step s = .next t → s.startAgrees = true → t.startAgrees = true

/-- R145, R146, R152, R154, R195: the queues of the ports stay within their capacities, so a reply always finds a place,
a STATUS frame that waits has 30 to 54 payload bytes, and Port C while UP, when its transmitter may send a reply, holds
none that was handed over while it was not UP. That such replies leave at the coming UP is the model's choice (log 41).
-/
def Obligations.PortCapacitiesKept : Prop :=
  ∀ s t, step s = .next t → s.capacitiesKept = true → t.capacitiesKept = true

/-- R66, R68, R70, R72: the friction learning unit's lists and values stay in their ranges. -/
def Obligations.LearningBoundsKept : Prop :=
  ∀ s t, step s = .next t → s.learningKept = true → t.learningKept = true

/-- R5, R9, R24, R30, R31, R38: samples, speeds, accumulator, U, a_f and the counts stay in their ranges. -/
def Obligations.EstimateRangesKept : Prop :=
  ∀ s t, step s = .next t → s.estimateInRange = true → t.estimateInRange = true

/-- R165: an erase or a program is in flight only while the store is UNLOCKED, and while it is LOCKED the contents of
S0 to S2 do not change except by a wipe. -/
def Obligations.LockProtectsParameters : Prop :=
  (∀ s t, step s = .next t → s.programsUnlocked = true → t.programsUnlocked = true)
    ∧ ∀ c s t a, exec c s = .next t → s.programsUnlocked = true → s.cst.flash.wf = true → s.cst.lock = .locked →
      (∀ erased clean n, s.cst.operation ≠ some ⟨.wipe erased clean, n⟩) → a < Sector.base .s3 →
      t.cst.flash.read a = s.cst.flash.read a

/-! ## The sample path -/

/-- R3, R20, R149, R201: a cycle timer expiry starts a transaction, which clocks out the command byte 0x3C and then
holds IMU_MOSI low for 16 bytes, counts from 0 again and raises the silence count of each UP port, here none of them to
its limit. That the row is the expiry whatever the timer reads is the model's choice (log 1). And R10, R20, R142, R170,
R189: in a microsecond, which a step on an empty queue is by the model's choice (log 4), the cycle timer goes on by one
and rests at 3999, each running silence timer goes on and rests at 100000, each receive assembly's idle time goes on and
rests at 40, where nothing depends on more, the time remaining of a flash operation and of SENSOR_WAIT falls by one and
rests at 0, the lines' period timers go on (LinePulses), and nothing else moves; a part held in OFF or RESET counts
nothing. -/
def Obligations.CycleTimerExpires : Prop :=
  (∀ s, s.pending = [] → s.operating = false → step s = .next s)
  ∧ (∀ s, s.pending = [] → s.operating = true →
    ∃ t, step s = .next t
      ∧ t = { s with sif := t.sif, leu := t.leu, lines := t.lines, ports := t.ports, cst := t.cst, sup := t.sup }
      ∧ t.leu = { s.leu with cycleTimer := s.leu.cycleTimer.map fun n => if n < 3999 then n + 1 else n }
      ∧ t.sif = { s.sif with wheels := t.sif.wheels }
      ∧ (∀ w, t.wheel w = { s.wheel w with
          silence := (s.wheel w).silence.map fun n => if n < 100000 then n + 1 else n })
      ∧ (∀ p, t.port p = { s.port p with
          receiver := { (s.port p).receiver with idle := min 40 ((s.port p).receiver.idle + 1) } })
      ∧ t.cst = { s.cst with operation := s.cst.operation.map fun o => { o with remaining := o.remaining - 1 } }
      ∧ t.sup = { s.sup with sensorWait := s.sup.sensorWait.map fun n => n - 1 })
  ∧ ∀ s n, s.operating = true → s.leu.cycleTimer = some n →
    (∀ p, (s.port p).state = .up → (s.port p).silence + 1 < 12) →
    ∃ t, exec .cycleTimerExpiry s = .next t
      ∧ t = { s with leu := t.leu, sif := t.sif, ports := t.ports }
      ∧ t.leu = { s.leu with cycleTimer := some 0 }
      ∧ t.sif = { s.sif with transaction := true, mosi := 0x3C :: List.replicate 16 0 }
      ∧ ∀ p, t.port p
          = if (s.port p).state = .up then { s.port p with silence := (s.port p).silence + 1 } else s.port p

/-- R100, R149, R150, R169: the expiry that takes a port's silence count to 12 makes the port LOST and its grants
UNCONFIRMED, LINK_LOST, countdown 250, frozen at their granted forces, which stand; no line moves; Port C's loss closes
the session. Another port takes the same expiry by itself: its count rises when it is UP, and its grants, and for Port C
the session, stand unless it goes LOST too. That either row is that expiry, whatever the timer reads, is the model's
choice (log 1, 2). -/
def Obligations.SilentPortLost : Prop :=
  ∀ s n p, s.operating = true → s.leu.cycleTimer = some n → (s.port p).state = .up → 12 ≤ (s.port p).silence + 1 →
    ∃ t, exec (.silenceCountExpiry p) s = .next t ∧ exec .cycleTimerExpiry s = .next t
      ∧ t.port p = { s.port p with state := .lost, silence := 12 }
      ∧ (∀ k ∈ p.keys, t.grant k
          = (s.grant k).map fun g => { g with confirmation := .unconfirmed 250 .linkLost g.granted })
      ∧ (p = .c → t.cst.session = .closed)
      ∧ (∀ q, q ≠ p → t.port q = if (s.port q).state = .up then
            if 12 ≤ (s.port q).silence + 1 then { s.port q with state := .lost, silence := 12 }
            else { s.port q with silence := (s.port q).silence + 1 }
          else s.port q)
      ∧ (∀ q, (s.port q).state ≠ .up ∨ (s.port q).silence + 1 < 12 →
          (∀ k ∈ q.keys, t.grant k = s.grant k) ∧ (q = .c → t.cst.session = s.cst.session))
      ∧ t = { s with
          leu := { s.leu with cycleTimer := some 0 }, ports := t.ports,
          sif := { s.sif with transaction := true, mosi := 0x3C :: List.replicate 16 0 },
          gre := { s.gre with grants := t.gre.grants }, cst := { s.cst with session := t.cst.session } }

/-- R4 to R7, R39, R169, R189: a block is valid when its check word, its ready bit, its counter and its six channels
pass; and what a transaction does that completes. A valid block: its six channels, most significant byte first at bytes
2 to 13, the rates clamped to 30000 and the accelerations to 4000 in magnitude, its counter at byte 0 and its status at
byte 1 become the sample and the last valid record, the invalid run is 0, SENSOR_WAIT ends and an ordinary computation
starts. An invalid one: the sample keeps the last valid record's channels, zeros when there is none, the invalid run
rises, saturating at 255, and in SENSOR_WAIT the computation is R39's. Either completion closes the service session when
v_ref is above 0, and leaves it else. That the handover fixes whether R39 governs is the model's reading (log 11). -/
def Obligations.SamplesJudged : Prop :=
  (∀ block last, blockValid block last = true ↔
    unsigned16 (blockByte block 14) (blockByte block 15)
        = 65535 - ((List.range 14).map fun i => (blockByte block i).toNat).sum
      ∧ (blockByte block 1).getLsbD 0 = true
      ∧ (∀ r, last = some r → blockByte block 0 ≠ r.counter)
      ∧ ∀ i ∈ [2, 4, 6, 8, 10, 12], signed16 (blockByte block i) (blockByte block (i + 1)) ≠ 32767
          ∧ signed16 (blockByte block i) (blockByte block (i + 1)) ≠ -32767
          ∧ signed16 (blockByte block i) (blockByte block (i + 1)) ≠ -32768)
  ∧ (∀ block, blockInertial block =
      { roll := clampInt (-30000) 30000 (signed16 (blockByte block 2) (blockByte block 3))
        pitch := clampInt (-30000) 30000 (signed16 (blockByte block 4) (blockByte block 5))
        yaw := clampInt (-30000) 30000 (signed16 (blockByte block 6) (blockByte block 7))
        ax := clampInt (-4000) 4000 (signed16 (blockByte block 8) (blockByte block 9))
        ay := clampInt (-4000) 4000 (signed16 (blockByte block 10) (blockByte block 11))
        az := clampInt (-4000) 4000 (signed16 (blockByte block 12) (blockByte block 13))
        counter := blockByte block 0, status := blockByte block 1 })
  ∧ (∀ s block, s.operating = true → s.sif.transaction = true → blockValid block s.sif.lastValid = true →
    ∃ t, exec (.transactionCompletion block) s = .next t
      ∧ t.sif.sample.inertial = blockInertial block ∧ t.sif.sample.imuValid = true
      ∧ t.sif.lastValid = some (blockInertial block) ∧ t.sif.invalidRun = 0 ∧ t.sif.transaction = false
      ∧ t.sif.mosi = []
      ∧ t.leu = { s.leu with work := .ordinary }
      ∧ t.sup = (if s.sup.start = .sensorWait then { s.sup with start := .running, sensorWait := none } else s.sup)
      ∧ t.cst = (if 0 < t.sif.vRef then { s.cst with session := .closed } else s.cst)
      ∧ t = { s with sif := t.sif, leu := t.leu, sup := t.sup, cst := t.cst })
  ∧ (∀ s block, s.operating = true → s.sif.transaction = true → blockValid block s.sif.lastValid = false →
    ∃ t, exec (.transactionCompletion block) s = .next t
      ∧ t.sif.sample.inertial = s.sif.lastValid.getD ⟨0, 0, 0, 0, 0, 0, 0, 0⟩ ∧ t.sif.sample.imuValid = false
      ∧ t.sif.lastValid = s.sif.lastValid ∧ t.sif.invalidRun = min 255 (s.sif.invalidRun + 1)
      ∧ t.sif.transaction = false ∧ t.sif.mosi = [] ∧ t.sup = s.sup
      ∧ t.leu = { s.leu with work := if s.sup.start = .sensorWait then .sensorWait else .ordinary }
      ∧ t.cst = (if 0 < t.sif.vRef then { s.cst with session := .closed } else s.cst)
      ∧ t = { s with sif := t.sif, leu := t.leu, cst := t.cst })

/-- R12, R15, R16: what a completion makes of the wheels. A silent VALID wheel beside a VALID one above 1000 cm/s
becomes INVALID; v_ref is the front speed, or under deceleration the faster, of two VALID wheels, the speed of the one
that is VALID, or the value held when neither is; v_ref_valid says whether one is. -/
def Obligations.ReferenceSpeedFormed : Prop :=
  ∀ s block, s.operating = true → s.sif.transaction = true →
    ∃ t, exec (.transactionCompletion block) s = .next t
      ∧ (∀ w, (t.wheel w).state = .invalid ↔
          (s.wheel w).state = .invalid
            ∨ ((s.wheel w).lastEdge = none ∧ (s.wheel w.other).state = .valid ∧ 1000 < (s.wheel w.other).speed))
      ∧ (∀ w, (t.wheel w).speed = (s.wheel w).speed ∧ t.sif.sample.speed.get w = (s.wheel w).speed
          ∧ t.sif.sample.valid.get w = ((t.wheel w).state == .valid))
      ∧ ((t.wheel .front).state = .valid → (t.wheel .rear).state = .valid →
          t.sif.vRef = if 0 ≤ s.leu.aF then (s.wheel .front).speed
            else max (s.wheel .front).speed (s.wheel .rear).speed)
      ∧ (∀ w, (t.wheel w).state = .valid → (t.wheel w.other).state = .invalid → t.sif.vRef = (s.wheel w).speed)
      ∧ ((t.wheel .front).state = .invalid → (t.wheel .rear).state = .invalid → t.sif.vRef = s.sif.vRef)
      ∧ (t.sif.vRefValid = true ↔ ∃ w, (t.wheel w).state = .valid)
      ∧ t.sif.sample.vRef = t.sif.vRef ∧ t.sif.sample.vRefValid = t.sif.vRefValid

/-- R8, R9, R11, R13: a capture times its edge and restarts the silence timer. Without a time of last edge it yields no
period; a plausible period gives the speed and, in an INVALID wheel, one more plausible tooth, the T-th of which makes
the wheel VALID; an implausible one makes the wheel INVALID and keeps the latest period and the speed. The other wheel
is untouched. That a count already at T or above makes the wheel VALID here too (log 35), that the count of the wheel so
turned VALID, which R13 keeps no longer, holds 0 (log 42), and that an edge not later than the last yields a period of 0
(log 8), are the model's choices. -/
def Obligations.ToothCaptured : Prop :=
  ∀ s w edge, s.operating = true →
    ∃ t, exec (.toothCapture w edge) s = .next t
      ∧ (t.wheel w).lastEdge = some edge ∧ (t.wheel w).silence = some 0 ∧ t.wheel w.other = s.wheel w.other
      ∧ ((s.wheel w).lastEdge = none → t.wheel w = { s.wheel w with lastEdge := some edge, silence := some 0 })
      ∧ (∀ last, (s.wheel w).lastEdge = some last → 20 ≤ edge - last →
          (t.wheel w).period = some (edge - last)
            ∧ (t.wheel w).speed
              = min 9000 (s.params.circumference w * 100000 / (s.params.teeth w * (edge - last)))
            ∧ ((s.wheel w).state = .valid → (t.wheel w).state = .valid)
            ∧ ((s.wheel w).state = .invalid →
                ((t.wheel w).state, (t.wheel w).plausible)
                  = if s.params.teeth w ≤ (s.wheel w).plausible + 1 then (.valid, 0)
                    else (.invalid, (s.wheel w).plausible + 1)))
      ∧ (∀ last, (s.wheel w).lastEdge = some last → edge - last < 20 →
          (t.wheel w).state = .invalid ∧ (t.wheel w).plausible = 0 ∧ (t.wheel w).speed = (s.wheel w).speed
            ∧ (t.wheel w).period = (s.wheel w).period)
      ∧ t = { s with
          sif := { s.sif with wheels := t.sif.wheels }, slm := t.slm, flu := t.flu, lines := t.lines,
          gre := { s.gre with grants := t.gre.grants } }

/-- R10, R13: the capture at which an INVALID wheel has been given its T-th plausible tooth; and the silence expiry: no
last edge, no period, speed 0, plausible count 0, the input state standing. That a count already at T or above turns the
wheel VALID at this capture too (log 35), that the count of a VALID wheel holds 0, here of the wheel turned VALID and of
one VALID at the silence expiry (log 42), that the row of the turn is that capture (log 2), and that the silence row is
its expiry whatever the timer reads (log 1), are the model's choices. -/
def Obligations.WheelValidity : Prop :=
  (∀ s w edge last, s.operating = true → (s.wheel w).state = .invalid → (s.wheel w).lastEdge = some last →
    20 ≤ edge - last → s.params.teeth w ≤ (s.wheel w).plausible + 1 →
    ∃ t, exec (.wheelRevalidated w edge) s = .next t ∧ exec (.toothCapture w edge) s = .next t
      ∧ (t.wheel w).state = .valid ∧ (t.wheel w).plausible = 0 ∧ (t.wheel w).period = some (edge - last))
  ∧ (∀ s w last, s.operating = true → (s.wheel w).lastEdge = some last →
    exec (.silenceExpiry w) s = .next (s.setWheel w { s.wheel w with
      lastEdge := none, period := none, speed := 0, silence := none, plausible := 0 }))

/-! ## The estimate -/

/-- R21 to R24, R26 to R28, R30, R39: a computation publishes. An ordinary one: the epoch advances by one, wrapping, a_f
takes one filter step, the record carries the new state, accumulator, U and the lean of that accumulator, LEAN_SAT is
false in UNSET, COASTING and LOST, a budget computation starts. One whose invalid sample was taken in SENSOR_WAIT moves
a_f and the epoch alone and carries the rest as it was, with LEAN_SAT false and this cycle's reference and v_ref, and
starts a budget computation too (R51). Either record's reference is NONE with lean 0 without a valid v_ref, YAW from 500
cm/s on, the arctangent of the rounded ratio of the turning rate, and GRAVITY below, from ay over the clamped az less
the mount roll offset. That the handover fixed which of the two it is is the model's reading (log 11), and that DRIFTING
which ends as LOST counts as LOST for LEAN_SAT too (log 12). -/
def Obligations.EstimatePublished : Prop :=
  (∀ s, s.operating = true → s.leu.work = .ordinary →
    ∃ t p, exec .estimatePublication s = .next t ∧ t.leu.published = some p
      ∧ t.leu.epoch = s.leu.epoch + 1 ∧ t.leu.work = .idle ∧ t.leu.cycleTimer = s.leu.cycleTimer
      ∧ t.leu.aF = s.leu.aF + truncated (s.sif.sample.inertial.ax - s.leu.aF) 8
      ∧ p.sample = s.sif.sample ∧ p.estimate.epoch = t.leu.epoch ∧ p.estimate.confidence = t.leu.conf
      ∧ p.estimate.acc = t.leu.acc ∧ p.estimate.u = t.leu.u ∧ p.estimate.aF = t.leu.aF
      ∧ p.estimate.lean = rounded t.leu.acc 1000
      ∧ (t.leu.conf = .unset ∨ t.leu.conf = .coasting ∨ t.leu.conf = .lost → p.estimate.leanSat = false)
      ∧ p.estimate.vRef = s.sif.sample.vRef ∧ p.estimate.vRefValid = s.sif.sample.vRefValid
      ∧ t = { s with
          leu := t.leu, gbu := { s.gbu with working := true, read := none }, slm := t.slm, flu := t.flu,
          lines := t.lines, gre := { s.gre with grants := t.gre.grants } })
  ∧ (∀ s, s.operating = true → s.leu.work = .sensorWait →
    ∃ t p, exec .estimatePublication s = .next t ∧ t.leu.published = some p
      ∧ t.leu = { s.leu with
          aF := s.leu.aF + truncated (s.sif.sample.inertial.ax - s.leu.aF) 8, epoch := s.leu.epoch + 1, work := .idle,
          published := some p }
      ∧ p.sample = s.sif.sample ∧ p.estimate.confidence = s.leu.conf ∧ p.estimate.acc = s.leu.acc
      ∧ p.estimate.u = s.leu.u ∧ p.estimate.leanSat = false ∧ p.estimate.vRef = s.sif.sample.vRef
      ∧ p.estimate.vRefValid = s.sif.sample.vRefValid ∧ p.estimate.epoch = t.leu.epoch
      ∧ p.estimate.aF = t.leu.aF ∧ p.estimate.lean = rounded s.leu.acc 1000
      ∧ t = { s with
          leu := t.leu, gbu := { s.gbu with working := true, read := none }, slm := t.slm, flu := t.flu,
          lines := t.lines, gre := { s.gre with grants := t.gre.grants } })
  ∧ (∀ s r, s.operating = true → s.leu.work ≠ .idle → r = s.sif.sample →
    ∃ t p, exec .estimatePublication s = .next t ∧ t.leu.published = some p
      ∧ p.estimate.refLean = referenceLean s.params r
      ∧ p.estimate.refKind = (if r.vRefValid = false then .none else if 500 ≤ r.vRef then .yaw else .gravity)
      ∧ (p.estimate.refKind = .none → p.estimate.refLean = 0)
      ∧ (p.estimate.refKind = .yaw →
          ∀ q : Nat, q = min 1732 ((r.vRef
            * isqrt (r.inertial.yaw * r.inertial.yaw + r.inertial.pitch * r.inertial.pitch).toNat * 2986 + 8388608)
              / 16777216) →
          p.estimate.refLean = if r.inertial.yaw < 0 then -(arctangentTable q : Int) else arctangentTable q)
      ∧ (p.estimate.refKind = .gravity → p.estimate.refLean
          = clampInt (-6000) 6000 (arctangentSigned (clampInt (-1732) 1732
              (truncated (r.inertial.ay * 1000) (clampInt 500 3000 r.inertial.az)))
            - clampInt (-500) 500 s.params.s0.mountRoll)))

/-- R25, R29, R30, R31, R34, R35, R38: publications in TRACKING and DRIFTING. TRACKING, v_ref valid, an invalid run
below 3: the prediction is blended toward the reference at gain 8, or 2 while the roll rate is above 2000 cd/s in
magnitude, and clamped, LEAN_SAT saying whether the clamp acted; U is 100. A run of 3 makes either state COASTING, the
accumulator held, U up by 25 to at most 3000. Below that and without a valid v_ref the accumulator is the prediction:
TRACKING stays so on an invalid sample; on a valid one, and from DRIFTING, the state is DRIFTING, U up by 5, or LOST
with U 6000 where that reaches 3000. A valid v_ref takes DRIFTING to SETTLING, blended at gain 64, U at least 500. A
change of state leaves both counts 0. LEAN_SAT says in every one of these but COASTING and LOST whether the clamp
changed the accumulator; that LOST entered from DRIFTING has it false is the model's reading (log 12). -/
def Obligations.TrackingBlends : Prop :=
  ∀ (s : State) (predicted : Int), s.operating = true → s.leu.work = .ordinary →
    predicted = s.leu.acc + s.sif.sample.inertial.roll * 4 →
    (s.leu.conf = .tracking → s.sif.invalidRun < 3 → s.sif.sample.vRefValid = true →
      ∃ t p x, exec .estimatePublication s = .next t ∧ t.leu.conf = .tracking ∧ t.leu.u = 100
        ∧ x = predicted + truncated ((referenceLean s.params s.sif.sample * 1000 - predicted)
            * (if s.sif.sample.inertial.roll.natAbs ≤ 2000 then 8 else 2)) 1024
        ∧ t.leu.acc = clampInt (-6000000) 6000000 x
        ∧ t.leu.published = some p ∧ (p.estimate.leanSat = true ↔ t.leu.acc ≠ x))
    ∧ (s.leu.conf = .tracking → s.sif.invalidRun < 3 → s.sif.sample.vRefValid = false →
        s.sif.sample.imuValid = false →
        ∃ t p, exec .estimatePublication s = .next t ∧ t.leu.conf = .tracking ∧ t.leu.u = 100
          ∧ t.leu.acc = clampInt (-6000000) 6000000 predicted
          ∧ t.leu.published = some p ∧ (p.estimate.leanSat = true ↔ t.leu.acc ≠ predicted))
    ∧ (s.leu.conf = .tracking ∨ s.leu.conf = .drifting → 3 ≤ s.sif.invalidRun →
        ∃ t p, exec .estimatePublication s = .next t ∧ t.leu.conf = .coasting ∧ t.leu.acc = s.leu.acc
          ∧ t.leu.u = min 3000 (s.leu.u + 25) ∧ t.leu.good = 0 ∧ t.leu.coast = 0
          ∧ t.leu.published = some p ∧ p.estimate.leanSat = false)
    ∧ ((s.leu.conf = .tracking ∧ s.sif.sample.imuValid = true) ∨ s.leu.conf = .drifting → s.sif.invalidRun < 3 →
        s.sif.sample.vRefValid = false →
        ∃ t p, exec .estimatePublication s = .next t ∧ t.leu.acc = clampInt (-6000000) 6000000 predicted
          ∧ (t.leu.conf, t.leu.u) = (if 3000 ≤ s.leu.u + 5 then (.lost, 6000) else (.drifting, s.leu.u + 5))
          ∧ t.leu.published = some p
          ∧ (p.estimate.leanSat = true ↔ t.leu.conf = .drifting ∧ t.leu.acc ≠ predicted)
          ∧ (t.leu.conf ≠ s.leu.conf → t.leu.good = 0 ∧ t.leu.coast = 0))
    ∧ (s.leu.conf = .drifting → s.sif.invalidRun < 3 → s.sif.sample.vRefValid = true →
        ∃ t p x, exec .estimatePublication s = .next t ∧ t.leu.conf = .settling ∧ t.leu.u = max 500 s.leu.u
          ∧ x = predicted + truncated ((referenceLean s.params s.sif.sample * 1000 - predicted) * 64) 1024
          ∧ t.leu.acc = clampInt (-6000000) 6000000 x
          ∧ t.leu.published = some p ∧ (p.estimate.leanSat = true ↔ t.leu.acc ≠ x)
          ∧ t.leu.good = 0 ∧ t.leu.coast = 0)

/-- R29 to R33, R36 to R38: publications in UNSET, SETTLING, COASTING and LOST, whose counts decide. UNSET, and LOST at
the third good one running, become SETTLING with the accumulator initialised from the reference, U at least 500, or 3000
from LOST; otherwise UNSET holds 0 and LOST its lean, with U 6000. SETTLING falls to UNSET at a run of 3, becomes
TRACKING at the good one at which its count reaches 250, U 100, blended at TRACKING's gain of 8 or 2, and else counts,
blended at gain 64, each good one taking 25 from U down to 500. COASTING becomes SETTLING at the third good one, LOST at
its 125th otherwise, the accumulator held, and else holds, U up by 25 to at most 3000. A change of state leaves both
counts 0. LEAN_SAT says of a blend whether the clamp changed it, and is false at an initialisation. That either row is
such a publication is the model's choice (log 2). -/
def Obligations.CountedEstimates : Prop :=
  ∀ (s : State) (good : Bool) (ref blended : Int), s.operating = true → s.leu.work = .ordinary →
    good = (s.sif.sample.imuValid && s.sif.sample.vRefValid) → ref = referenceLean s.params s.sif.sample →
    blended = (if s.sif.sample.vRefValid = true then
        s.leu.acc + s.sif.sample.inertial.roll * 4
          + truncated ((ref * 1000 - (s.leu.acc + s.sif.sample.inertial.roll * 4)) * 64) 1024
      else s.leu.acc + s.sif.sample.inertial.roll * 4) →
    (s.leu.conf = .settling → s.sif.invalidRun < 3 → good = true → 249 ≤ s.leu.good →
      ∃ t, exec .settlingGoodCountReached s = .next t ∧ exec .estimatePublication s = .next t
        ∧ t.leu.conf = .tracking ∧ t.leu.good = 0 ∧ t.leu.coast = 0 ∧ t.leu.u = 100
        ∧ ∃ p x predicted, t.leu.published = some p ∧ predicted = s.leu.acc + s.sif.sample.inertial.roll * 4
          ∧ x = predicted + truncated ((ref * 1000 - predicted)
              * (if s.sif.sample.inertial.roll.natAbs ≤ 2000 then 8 else 2)) 1024
          ∧ t.leu.acc = clampInt (-6000000) 6000000 x ∧ (p.estimate.leanSat = true ↔ t.leu.acc ≠ x))
    ∧ (s.leu.conf = .coasting → 124 ≤ s.leu.coast → (good = false ∨ s.leu.good < 2) →
        ∃ t, exec .coastCountExpiry s = .next t ∧ exec .estimatePublication s = .next t
          ∧ t.leu.conf = .lost ∧ t.leu.u = 6000 ∧ t.leu.acc = s.leu.acc ∧ t.leu.good = 0 ∧ t.leu.coast = 0)
    ∧ ∃ t p, exec .estimatePublication s = .next t ∧ t.leu.published = some p
      ∧ (s.leu.conf = .unset → good = true →
          t.leu.conf = .settling ∧ t.leu.acc = ref * 1000 ∧ t.leu.u = max 500 s.leu.u ∧ t.leu.good = 0
            ∧ t.leu.coast = 0 ∧ p.estimate.leanSat = false)
      ∧ (s.leu.conf = .unset → good = false → t.leu.conf = .unset ∧ t.leu.acc = 0 ∧ t.leu.u = 6000)
      ∧ (s.leu.conf = .settling → 3 ≤ s.sif.invalidRun →
          t.leu.conf = .unset ∧ t.leu.acc = 0 ∧ t.leu.u = 6000 ∧ t.leu.good = 0 ∧ t.leu.coast = 0)
      ∧ (s.leu.conf = .settling → s.sif.invalidRun < 3 → (good = false ∨ s.leu.good < 249) →
          t.leu.conf = .settling ∧ t.leu.acc = clampInt (-6000000) 6000000 blended
            ∧ (p.estimate.leanSat = true ↔ t.leu.acc ≠ blended)
            ∧ (t.leu.good, t.leu.u)
              = (if good = true then (s.leu.good + 1, max 500 (s.leu.u - 25)) else (0, s.leu.u)))
      ∧ (s.leu.conf = .coasting → good = true → 2 ≤ s.leu.good →
          t.leu.conf = .settling ∧ t.leu.acc = clampInt (-6000000) 6000000 blended ∧ t.leu.u = max 500 s.leu.u
            ∧ (p.estimate.leanSat = true ↔ t.leu.acc ≠ blended) ∧ t.leu.good = 0 ∧ t.leu.coast = 0)
      ∧ (s.leu.conf = .coasting → (good = false ∨ s.leu.good < 2) → s.leu.coast < 124 →
          t.leu.conf = .coasting ∧ t.leu.acc = s.leu.acc ∧ t.leu.u = min 3000 (s.leu.u + 25)
            ∧ t.leu.coast = s.leu.coast + 1 ∧ t.leu.good = if good = true then s.leu.good + 1 else 0)
      ∧ (s.leu.conf = .lost → good = true → 2 ≤ s.leu.good →
          t.leu.conf = .settling ∧ t.leu.acc = ref * 1000 ∧ t.leu.u = 3000 ∧ t.leu.good = 0 ∧ t.leu.coast = 0
            ∧ p.estimate.leanSat = false)
      ∧ (s.leu.conf = .lost → (good = false ∨ s.leu.good < 2) →
          t.leu.conf = .lost ∧ t.leu.acc = s.leu.acc ∧ t.leu.u = 6000
            ∧ t.leu.good = if good = true then s.leu.good + 1 else 0)

/-! ## The slip monitors -/

/-- R67, R68, R98, R99, R111 to R116, R121, R122: what a monitor whose IDLE condition does not hold does with the slip
of a publication. A soft slip, at once where D is 0 or at the end of the delay, makes it SOFT, its caps at soft_level of
the granted forces before, each affected grant cut to its cap, its trigger pending with force F unless F is 0. A hard
slip, or in SOFT past its grace a soft one, makes it HARD, kind SYNC_HARD, each affected grant cut to 0, its trigger
pending with force F, formed from the forces before the cut, unless F is 0. A SOFT hold
that runs out without an escalation makes it BLANKING, the caps gone, each affected grant RECOVERING with its force as
it was; short of its end the hold counts and the grace ends. Without a trigger an IDLE or ARMED monitor is ARMED, or
DELAYING with count D on a soft slip; DELAYING counts on a soft slip and else is ARMED; BLANKING counts until it is
ARMED; no grant of its keys changes. That the trigger is taken before this epoch's report counts fall and its budgets
are out, so that F is formed from the counts before and the trigger waits, and that a clamp end is taken before the
re-evaluation of the same publication (log 37), that a fresh report without an
applied force counts as the granted force (log 32), and that the row of an occurrence is the publication it falls in
(log 2), are the model's choices. -/
def Obligations.SoftClampRuns : Prop :=
  ∀ s m p x, s.operating = true → s.leu.work ≠ .idle → s.estimateStep.leu.published = some p →
    s.idleCondition m p = false → s.slipAt m p = some x →
    ∃ t, exec .estimatePublication s = .next t
      ∧ (((s.monitor m).state = .delaying ∧ (s.monitor m).count ≤ 1)
            ∨ (((s.monitor m).state = .idle ∨ (s.monitor m).state = .armed) ∧ s.params.delay s.profile = 0) →
          s.beyondSoft m x = true → s.beyondHard m x = false →
          ((s.monitor m).state = .delaying → exec (.delayCountExpiry m) s = .next t)
            ∧ (t.monitor m).state = .soft ∧ (t.monitor m).trigger = .syncSoft ∧ (t.monitor m).grace = true
            ∧ (t.monitor m).count = s.params.softHold s.profile
            ∧ (∀ k ∈ m.keys, (t.monitor m).cap.get k
                = some ((s.grantedForce k).getD 0 * s.params.softLevel s.profile / 1000))
            ∧ (∀ k ∈ m.keys, t.grantedForce k
                = (s.grantedForce k).map fun v => min v (v * s.params.softLevel s.profile / 1000))
            ∧ (s.triggerForce m ≠ 0 → s.flu.triggers.length ≤ 3 →
                (∀ q, s.gbu.publication = some q → q.estimate.epoch ≠ p.estimate.epoch) →
                ⟨m, s.triggerForce m, p.estimate.epoch⟩ ∈ t.flu.triggers))
      ∧ ((s.monitor m).state ≠ .hard → (s.beyondHard m x = true
            ∨ ((s.monitor m).state = .soft ∧ (s.monitor m).grace = false ∧ s.beyondSoft m x = true)) →
          t.monitor m = { s.monitor m with
              state := .hard, count := 0, grace := false, cap := ⟨none, none, none, none⟩, within := 0,
              trigger := .syncHard, lastSlip := some x, bound := (t.monitor m).bound }
            ∧ (∀ k ∈ m.keys, t.grantedForce k = (s.grantedForce k).map fun _ => 0)
            ∧ (s.triggerForce m ≠ 0 → s.flu.triggers.length ≤ 3 →
                (∀ q, s.gbu.publication = some q → q.estimate.epoch ≠ p.estimate.epoch) →
                ⟨m, s.triggerForce m, p.estimate.epoch⟩ ∈ t.flu.triggers))
      ∧ ((s.monitor m).state = .soft → s.beyondHard m x = false →
          ((s.monitor m).grace = true ∨ s.beyondSoft m x = false) →
          ((s.monitor m).count ≤ 1 → exec (.softHoldExpiry m) s = .next t
              ∧ (t.monitor m).state = .blanking ∧ (t.monitor m).count = s.params.blank s.profile
              ∧ (∀ k, (t.monitor m).cap.get k = none)
              ∧ ∀ k ∈ m.keys, t.grantedForce k = s.grantedForce k ∧ ∀ g, t.grant k = some g → g.recovering = true)
            ∧ (1 < (s.monitor m).count → t.monitor m = { s.monitor m with
                  grace := false, count := (s.monitor m).count - 1, lastSlip := some x, bound := (t.monitor m).bound }
                ∧ ∀ k ∈ m.keys, t.grant k = s.grant k))
      ∧ (s.beyondHard m x = false → ∀ state count,
          (((s.monitor m).state = .idle ∨ (s.monitor m).state = .armed) ∧ s.beyondSoft m x = false
              ∧ state = .armed ∧ count = (s.monitor m).count)
            ∨ (((s.monitor m).state = .idle ∨ (s.monitor m).state = .armed) ∧ s.beyondSoft m x = true
              ∧ state = .delaying ∧ count = s.params.delay s.profile ∧ 0 < count)
            ∨ ((s.monitor m).state = .delaying ∧ s.beyondSoft m x = true
              ∧ state = .delaying ∧ count = (s.monitor m).count - 1 ∧ 0 < count)
            ∨ ((s.monitor m).state = .delaying ∧ s.beyondSoft m x = false ∧ state = .armed ∧ count = 0)
            ∨ ((s.monitor m).state = .blanking ∧ count = (s.monitor m).count - 1
              ∧ state = if count = 0 then .armed else .blanking) →
          t.monitor m = { s.monitor m with
              state := state, count := count, lastSlip := some x, bound := (t.monitor m).bound }
            ∧ ∀ k ∈ m.keys, t.grant k = s.grant k)

/-- R107, R109 to R111, R118, R121, R122: every publication forms a monitor's slip, within 1000 pm of 0, where v_ref and
the wheel count VALID, and renews its bound where v_ref is valid and 300 cm/s or more. Where the IDLE condition holds, a
monitor not in HARD is IDLE, its count 0, grace clear, caps gone; a SOFT one so ends its clamp, its grants RECOVERING. A
HARD one counts the publications with its slip inside the soft thresholds, afresh after any other, and at hard_auto of
them ends its clamp: BLANKING, the affected grants RECOVERING with their forces as they were. A BLANKING count that runs
out without a hard slip makes the monitor ARMED. That the row of an occurrence is the publication it falls in is the
model's choice (log 2). -/
def Obligations.BlankingAndHardEnd : Prop :=
  ∀ s m p, s.operating = true → s.leu.work ≠ .idle → s.estimateStep.leu.published = some p →
    ∃ t, exec .estimatePublication s = .next t ∧ t.leu.published = some p
      ∧ (t.monitor m).lastSlip = s.slipAt m p
      ∧ s.slipAt m p
        = (if p.estimate.vRefValid = true ∧ p.sample.valid.get m.wheel = true ∧ (s.monitor m).wheelSeen = .valid then
            some (clampInt (-1000) 1000 (truncated (((p.sample.speed.get m.wheel : Int) - p.estimate.vRef) * 1000)
              (max p.estimate.vRef 300 : Nat)))
          else none)
      ∧ (t.monitor m).bound
        = (if p.estimate.vRefValid = true ∧ 300 ≤ p.estimate.vRef then
            some (s.params.circumference m.wheel * 100000 / (s.params.teeth m.wheel * p.estimate.vRef) * 1000
              / (1000 + (if m = .rearSpin then s.params.hardSpin s.profile else s.params.hardLock s.profile)).toNat)
          else none)
      ∧ (t.monitor m).wheelSeen = (s.monitor m).wheelSeen ∧ (t.monitor m).window = (s.monitor m).window
      ∧ (s.idleCondition m p = true ↔ p.estimate.vRefValid = false ∨ p.estimate.vRef < 300
          ∨ p.sample.valid.get m.wheel = false ∨ (s.monitor m).wheelSeen = .invalid)
      ∧ (s.idleCondition m p = true → (s.monitor m).state ≠ .hard →
          (t.monitor m).state = .idle
            ∧ ((s.monitor m).state ≠ .idle → (t.monitor m).count = 0 ∧ (t.monitor m).grace = false
                ∧ (t.monitor m).cap = ⟨none, none, none, none⟩)
            ∧ ((s.monitor m).state = .soft → ∀ k ∈ m.keys,
                t.grantedForce k = s.grantedForce k ∧ ∀ g, t.grant k = some g → g.recovering = true)
            ∧ ((s.monitor m).state ≠ .soft → ∀ k ∈ m.keys, t.grant k = s.grant k))
      ∧ ((s.monitor m).state = .hard → ∀ n,
          n = (match s.slipAt m p with
            | some x => if s.params.softLock s.profile ≤ x ∧ x ≤ s.params.softSpin s.profile then
                min 1000 ((s.monitor m).within + 1) else 0
            | none => 0) →
          (0 < s.params.hardAuto → s.params.hardAuto ≤ n →
            exec (.hardAutoEnd m) s = .next t ∧ (t.monitor m).state = .blanking ∧ (t.monitor m).within = 0
              ∧ (t.monitor m).count = s.params.blank s.profile
              ∧ ∀ k ∈ m.keys, t.grantedForce k = s.grantedForce k ∧ ∀ g, t.grant k = some g → g.recovering = true)
          ∧ ((s.params.hardAuto = 0 ∨ n < s.params.hardAuto) →
              (t.monitor m).state = .hard ∧ (t.monitor m).within = n
                ∧ (t.monitor m).trigger = (s.monitor m).trigger ∧ ∀ k ∈ m.keys, t.grant k = s.grant k))
      ∧ (∀ x, (s.monitor m).state = .blanking → (s.monitor m).count ≤ 1 → s.idleCondition m p = false →
          s.slipAt m p = some x → s.beyondHard m x = false →
          exec (.blankingExpiry m) s = .next t ∧ (t.monitor m).state = .armed ∧ (t.monitor m).count = 0
            ∧ ∀ k ∈ m.keys, t.grant k = s.grant k)

/-- R66 to R68, R98, R116, R119, R120: a lock window that runs out while its monitor watches, or a capture whose
plausible period lies beyond a watching monitor's bound on a VALID wheel, triggers that monitor into HARD at once, kind
IMMEDIATE, and cuts each affected grant to 0. Its force F, the sum over its grants of the applied force where the report
is fresh and else of the granted force before the cut, waits for the next epoch's budgets; a trigger with F 0, or one
beyond six, is not kept. A capture on an INVALID wheel stops the lock window and takes a watching monitor to IDLE; on a
VALID one it restarts a lock monitor's window, its bound after the edge, or stops it without a bound. A monitor so taken
to IDLE has its count 0, its grace clear and its caps gone, and from SOFT it ends its clamp: its grants RECOVERING, their
forces as they were. A capture on a VALID wheel without a period beyond the bound, with no period or with no bound, or at
a monitor in IDLE or HARD, leaves the monitor, its grants and the friction learning unit else as they were, and so does a
window's expiry at a monitor that does not watch; the monitors of the other wheel take nothing. That the window's
row is its expiry at any time (log 1), and that a fresh report without an applied force counts as the granted force (log
32), are the model's choices. -/
def Obligations.ImmediatePath : Prop :=
  (∀ s m d, s.operating = true → (s.monitor m).window = some d → (s.monitor m).watching = true →
    ∃ t, exec (.lockWindowExpiry m) s = .next t
      ∧ (t.monitor m).state = .hard ∧ (t.monitor m).trigger = .immediate ∧ (t.monitor m).window = none
      ∧ (t.monitor m).within = 0 ∧ (∀ j, j ≠ m → t.monitor j = s.monitor j)
      ∧ (∀ k ∈ m.keys, t.grantedForce k = (s.grantedForce k).map fun _ => 0)
      ∧ (∀ k, k ∉ m.keys → t.grant k = s.grant k)
      ∧ (∀ force, force = (m.keys.map fun k => match s.grant k with
            | none => 0
            | some g => if 0 < s.flu.reports.get k then g.applied.getD g.granted else g.granted).sum →
          (force = 0 ∨ 6 ≤ s.flu.triggers.length → t.flu = s.flu)
          ∧ (0 < force → s.flu.triggers.length < 6 →
              (∀ q, s.gbu.publication = some q → q.estimate.epoch ≠ s.leu.epoch + 1) →
              t.flu = { s.flu with triggers := s.flu.triggers ++ [⟨m, force, s.leu.epoch + 1⟩] })
          ∧ (∀ q, 0 < force → s.flu.triggers.length < 6 → s.gbu.publication = some q →
              q.estimate.epoch = s.leu.epoch + 1 →
              t.flu = { s.flu with events := match slipEvent q m force with
                | some e => offerEvent s.params.recoverCycles s.flu.events e
                | none => s.flu.events }))
      ∧ t = { s with slm := t.slm, gre := { s.gre with grants := t.gre.grants }, lines := t.lines, flu := t.flu })
  ∧ (∀ s m d, s.operating = true → (s.monitor m).window = some d → (s.monitor m).watching = false →
    exec (.lockWindowExpiry m) s = .next (s.setMonitor m { s.monitor m with window := none }))
  ∧ (∀ s m edge last, s.operating = true → (s.wheel m.wheel).state = .valid →
    (s.wheel m.wheel).lastEdge = some last → 20 ≤ edge - last → (s.monitor m).watching = true →
    (∃ b, (s.monitor m).bound = some b ∧ if m = .rearSpin then edge - last < b else b < edge - last) →
    ∃ t, exec (.toothCapture m.wheel edge) s = .next t
      ∧ (t.monitor m).state = .hard ∧ (t.monitor m).trigger = .immediate
      ∧ (∀ k ∈ m.keys, t.grantedForce k = (s.grantedForce k).map fun _ => 0)
      ∧ (∀ force, force = (m.keys.map fun k => match s.grant k with
            | none => 0
            | some g => if 0 < s.flu.reports.get k then g.applied.getD g.granted else g.granted).sum →
          0 < force → s.flu.triggers.length ≤ 4 →
          (∀ q, s.gbu.publication = some q → q.estimate.epoch ≠ s.leu.epoch + 1) →
          ⟨m, force, s.leu.epoch + 1⟩ ∈ t.flu.triggers))
  ∧ (∀ s m edge (beyond : MonitorName → Prop), s.operating = true →
    (∀ j, beyond j ↔ (s.monitor j).watching = true ∧ ∃ last b, (s.wheel m.wheel).lastEdge = some last
      ∧ 20 ≤ edge - last ∧ (s.monitor j).bound = some b ∧ if j = .rearSpin then edge - last < b else b < edge - last) →
    ∃ t, exec (.toothCapture m.wheel edge) s = .next t
      ∧ (∀ j, j.wheel ≠ m.wheel → t.monitor j = s.monitor j ∧ ∀ k ∈ j.keys, t.grant k = s.grant k)
      ∧ ((t.wheel m.wheel).state = .invalid ∨ (∀ j, j.wheel = m.wheel → ¬beyond j) →
          t.flu = s.flu ∧ t.lines = s.lines)
      ∧ ((t.wheel m.wheel).state = .valid → ¬beyond m →
          t.monitor m = { s.monitor m with wheelSeen := .valid, window := (t.monitor m).window }
            ∧ ∀ k ∈ m.keys, t.grant k = s.grant k)
      ∧ ((t.wheel m.wheel).state = .invalid →
          t.monitor m = (if (s.monitor m).watching = true then
              { s.monitor m with
                wheelSeen := .invalid, window := none, state := .idle, count := 0, grace := false
                cap := ⟨none, none, none, none⟩ }
            else { s.monitor m with wheelSeen := .invalid, window := none })
          ∧ ∀ k ∈ m.keys, t.grant k = if (s.monitor m).state = .soft then
              (s.grant k).map fun g =>
                { g with recovering := true, state := deriveState (t.monitor m) k g.requested g.granted }
            else s.grant k)
      ∧ (t.monitor m).wheelSeen = (t.wheel m.wheel).state
      ∧ ((t.wheel m.wheel).state = .invalid → (t.monitor m).window = none
          ∧ (t.monitor m).state = (if (s.monitor m).watching = true then .idle else (s.monitor m).state))
      ∧ ((t.wheel m.wheel).state = .valid → (t.monitor m).window
          = if m = .rearSpin then (s.monitor m).window else (s.monitor m).bound.map fun b => edge + b))

/-- R99, R107, R122 to R124: a CLAMP_CLEAR is refused by the first check that fails: outside RUNNING, a monitor without
a code, a port that may not clear it, a monitor not in HARD, a last slip absent or outside the soft thresholds; and a
refusal changes nothing. Else OK: BLANKING, the affected grants RECOVERING with their forces as they were. SHIFT_NOTICE
in RUNNING: OK, and REAR_SPIN in ARMED or DELAYING enters BLANKING with shift_blank, in any other state it stays;
outside RUNNING it is answered NOT_READY. Each is served at its own row (log 24). -/
def Obligations.MonitorRequests : Prop :=
  (∀ s p r m x, s.running = true → s.served p .clampClear = some r → monitorOfCode (r.byte 0) = some m →
    m.clearedFrom p = true → (s.monitor m).state = .hard → (s.monitor m).lastSlip = some x →
    s.insideSoft x = true →
    ∃ t, exec (.clampClear p) s = .next t
      ∧ t.port p = (s.port p).answer ⟨.clampClear, .ok, []⟩
      ∧ (t.monitor m).state = .blanking ∧ (t.monitor m).count = s.params.blank s.profile
      ∧ (∀ j, j ≠ m → t.monitor j = s.monitor j)
      ∧ (∀ k ∈ m.keys, t.grantedForce k = s.grantedForce k ∧ ∀ g, t.grant k = some g → g.recovering = true)
      ∧ t = { s with slm := t.slm, gre := { s.gre with grants := t.gre.grants }, ports := t.ports })
  ∧ (∀ s p r code, s.operating = true → s.served p .clampClear = some r →
    code = (if s.running = false then some ReplyCode.notReady
      else match monitorOfCode (r.byte 0) with
        | none => some .badField
        | some m =>
          if m.clearedFrom p = false then some .notPermitted
          else if (s.monitor m).state ≠ .hard then some .notHeld
          else match (s.monitor m).lastSlip with
            | none => some .slipPresent
            | some x => if s.params.softLock s.profile ≤ x ∧ x ≤ s.params.softSpin s.profile then none
                else some .slipPresent) →
    ∀ c, code = some c →
      exec (.clampClear p) s = .next (s.setPort p ((s.port p).answer ⟨.clampClear, c, []⟩)))
  ∧ (∀ s r, s.running = true → s.served .e .shiftNotice = some r →
    exec .shiftNotice s = .next
      ((if (s.monitor .rearSpin).state = .armed ∨ (s.monitor .rearSpin).state = .delaying then
          s.setMonitor .rearSpin { s.monitor .rearSpin with state := .blanking, count := s.params.shiftBlank }
        else s).answer .e ⟨.shiftNotice, .ok, []⟩))
  ∧ (∀ s r, s.operating = true → s.running = false → s.served .e .shiftNotice = some r →
    exec .shiftNotice s = .next (s.setPort .e ((s.port .e).answer ⟨.shiftNotice, .notReady, []⟩)))

/-! ## Budgets and learning -/

/-- R51 to R61, R82: a budget computation publishes, from the latest estimate publication and the ride settings it read:
the front load fraction of the class and a_f, the total load of the mass and az, the front wheel's floored part of it
and the rest on the rear; the lateral demand of the lean and its uncertainty; the capacity, the usable fraction and the
budget, or the floor budget where the lean is not known; and becomes the pending re-evaluation. That all of it happens
at the publication is the model's choice (log 10). -/
def Obligations.BudgetPublished : Prop :=
  ∀ s p cls, s.operating = true → s.gbu.working = true → s.leu.published = some p →
    cls = (s.gbu.read.getD s.gbu.settings).cls →
    ∃ t q l, exec .budgetPublication s = .next t ∧ t.gbu.publication = some q ∧ t.gre.waiting = some q
      ∧ t.gbu.loads = some l ∧ q.estimate = p.estimate ∧ q.profile = t.gbu.settings.profile
      ∧ (l.frontPm : Int) = clampInt 50 950
          (s.params.staticFront cls - truncated (p.estimate.aF * s.params.hwb cls) 1000)
      ∧ (l.total : Int) = s.params.mass cls * clampInt 500 3000 p.sample.inertial.az * 9807 / 1000000
      ∧ l.load.front = l.total * l.frontPm / 1000 ∧ l.load.front + l.load.rear = l.total
      ∧ (∀ w, (q.record.get w).wheel = w ∧ (q.record.get w).load = l.load.get w
          ∧ (q.record.get w).epoch = p.estimate.epoch ∧ (q.record.get w).mu = t.flu.learned
          ∧ (q.record.get w).lat
            = min 1732 (tangentTable (min (p.estimate.lean.natAbs + p.estimate.u) 6000))
          ∧ (q.record.get w).long
            = (if (q.record.get w).lat < t.flu.learned then
                isqrt (t.flu.learned * t.flu.learned - (q.record.get w).lat * (q.record.get w).lat) else 0)
          ∧ (q.record.get w).b
            = (q.record.get w).long * (1000 - s.params.reserve t.gbu.settings.profile) / 1000
          ∧ ((q.record.get w).floor = true ↔ p.estimate.confidence = .unset ∨ p.estimate.confidence = .lost)
          ∧ (q.record.get w).budget
            = (if (q.record.get w).floor then l.load.get w * s.params.floorPm / 1000
                else min 20000 (l.load.get w * (q.record.get w).b / 1000)))
      ∧ t = { s with
          gbu := { t.gbu with working := false, read := none }, flu := t.flu, gre := { s.gre with waiting := some q } }

/-- R50, R51, R59, R66, R68 to R72: at a budget computation a NEXT profile of the settings it read comes into force, a
DEFERRED one when v_ref is 0 or no drive force is granted; a pending profile set after its read stays for the next
computation (log 10); class and policy stand. The learned friction becomes the least of that profile's nominal and the
contributions of the events that remain after ageing, every report count falls by one, and no published budget exceeds
floor(N_w × μ / 1000). Then the pending triggers of its epoch leave and are completed in order of arrival into slip
events of the isqrt of force ratio and lean demand squared, none where the wheel carries no load. An event offered to
the list joins it while it holds fewer than eight, else in place of the oldest of the highest contribution if it is
lower. -/
def Obligations.BudgetStages : Prop :=
  (∀ s p, s.operating = true → s.gbu.working = true → s.leu.published = some p →
    ∃ t, exec .budgetPublication s = .next t
      ∧ t.flu.learned ≤ s.params.muNom t.gbu.settings.profile
      ∧ (∀ e ∈ s.flu.events.map SlipEvent.aged,
          e.contribution s.params.recoverCycles < s.params.muNom t.gbu.settings.profile →
          t.flu.learned ≤ e.contribution s.params.recoverCycles)
      ∧ (t.flu.learned = s.params.muNom t.gbu.settings.profile
          ∨ ∃ e ∈ s.flu.events.map SlipEvent.aged, t.flu.learned = e.contribution s.params.recoverCycles)
      ∧ ∀ k, t.flu.reports.get k = s.flu.reports.get k - 1)
  ∧ (∀ s p used, s.operating = true → s.gbu.working = true → s.leu.published = some p →
    used = s.gbu.read.getD s.gbu.settings →
    ∃ t, exec .budgetPublication s = .next t ∧ t.gbu.read = none
      ∧ t.gbu.settings.cls = s.gbu.settings.cls ∧ t.gbu.settings.policy = s.gbu.settings.policy
      ∧ (∀ profile pending,
          (profile, pending) = (match used.pending with
            | none => (used.profile, none)
            | some q => if q.kind = .next ∨ p.estimate.vRef = 0 ∨ (s.grantedForce .eRearDrive).getD 0 = 0 then
                (q.profile, none) else (used.profile, some q)) →
          t.gbu.settings.profile = profile
            ∧ (s.gbu.settings.pending = used.pending → t.gbu.settings.pending = pending)
            ∧ (s.gbu.settings.pending ≠ used.pending → t.gbu.settings.pending = s.gbu.settings.pending)))
  ∧ (∀ s t p q w, s.learningKept = true → s.operating = true → s.gbu.working = true → s.leu.published = some p →
    exec .budgetPublication s = .next t → t.gbu.publication = some q →
    (q.record.get w).budget ≤ (q.record.get w).load * (q.record.get w).mu / 1000)
  ∧ (∀ s p, s.operating = true → s.gbu.working = true → s.leu.published = some p →
    ∃ t q, exec .budgetPublication s = .next t ∧ t.gbu.publication = some q
      ∧ t.flu.triggers = s.flu.triggers.filter (fun x => x.target != p.estimate.epoch)
      ∧ t.flu.events
        = ((s.flu.triggers.filter fun x => x.target == p.estimate.epoch).filterMap fun x =>
            slipEvent q x.monitor x.force).foldl (offerEvent s.params.recoverCycles)
          ((s.flu.events.map SlipEvent.aged).filter fun e =>
            decide (e.contribution s.params.recoverCycles < s.params.muNom t.gbu.settings.profile)))
  ∧ (∀ (q : BudgetPublication) m force load ratio lat, load = (q.record.get m.wheel).load →
    ratio = min 1732 (force * 1000 / load) → lat = tangentTable q.estimate.lean.natAbs →
    slipEvent q m force = if load = 0 then none
      else some ⟨max 100 (min 1300 (isqrt (ratio * ratio + lat * lat))), 0⟩)
  ∧ (∀ n (events : List SlipEvent) e,
    (events.length < 8 → offerEvent n events e = events ++ [e])
    ∧ (∀ older x younger, 8 ≤ events.length → events = older ++ x :: younger →
        (∀ y ∈ older, y.contribution n < x.contribution n) → (∀ y ∈ younger, y.contribution n ≤ x.contribution n) →
        offerEvent n events e
          = if e.muObs < x.contribution n then older ++ younger ++ [e] else events))

/-- R45 to R49, R51: a PROFILE_SET is refused whole by the first check that fails: outside RUNNING, a field outside its
enumeration, a class change away from standstill. Else class and policy are taken at once and the profile becomes
pending, DEFERRED when it is permissive, v_ref is above 0 and the drive grant holds force. One served after a
computation in flight has read the settings leaves that computation the settings as they stood; which of the two comes
first is a free value (log 10), drawn while no earlier PROFILE_SET has found them read. -/
def Obligations.ProfileSetServed : Prop :=
  ∀ (s u : State) r code, s.operating = true → s.served .c .profileSet = some r →
    code = (if s.running = false then some ReplyCode.notReady
      else if profileOfCode (r.byte 0) = none ∨ (r.optionalField 1).any (fun n => (classOfCode n).isNone) = true
          ∨ (r.optionalField 2).any (fun n => (policyOfCode n).isNone) = true then some .badField
      else if ((r.optionalField 1).bind classOfCode).getD s.gbu.settings.cls ≠ s.gbu.settings.cls
          ∧ (0 < s.sif.vRef ∨ s.sif.vRefValid = false) then some .notStandstill
      else none) →
    u = (if s.gbu.working = true ∧ s.gbu.read = none then
        { s with
          gbu := { s.gbu with read := if Config.readBefore s.freeCount = true then some s.gbu.settings else none }
          freeCount := s.freeCount + 1 }
      else s) →
    (∀ c, code = some c → exec .profileSet s = .next (u.answer .c ⟨.profileSet, c, []⟩))
    ∧ (∀ q (deferred : Bool), code = none → profileOfCode (r.byte 0) = some q →
        (deferred = true ↔ (s.params.muNom s.profile < s.params.muNom q ∨ s.params.reserve q < s.params.reserve s.profile)
          ∧ 0 < s.sif.vRef ∧ 0 < (s.grantedForce .eRearDrive).getD 0) →
        exec .profileSet s = .next
          ((u.setGbu { u.gbu with
              settings :=
                { profile := s.profile
                  pending := if q = s.profile then none else some ⟨q, if deferred then .deferred else .next⟩
                  cls := ((r.optionalField 1).bind classOfCode).getD s.gbu.settings.cls
                  policy := ((r.optionalField 2).bind policyOfCode).getD s.gbu.settings.policy } }).answer .c
            ⟨.profileSet, if deferred then .deferred else .ok, []⟩))

/-! ## The grant engine -/

/-- R80, R83: the free engine takes a pending re-evaluation first, with the budget in force and the policy; else an
URGENT request ahead of another, and among equals the pointer's, which then names the other port. The estimate record
kept beside the budget is the model's own (log 13). -/
def Obligations.ServiceTaken : Prop :=
  ∀ s, s.operating = true → s.gre.engine = .free →
    (∀ q, s.gre.waiting = some q →
      exec .greServiceTake s = .next (s.setGre { s.gre with
        budget := ⟨⟨(q.record.get .front).budget, (q.record.get .rear).budget⟩, q.estimate.epoch,
          (q.record.get .rear).mu⟩
        policy := s.gbu.settings.policy
        engine := .reevaluation
        waiting := none
        reported := some q.estimate }))
    ∧ (∀ h r, s.gre.waiting = none → s.waitingRequest h = some r →
        (∀ r', s.waitingRequest h.other = some r' →
          (r.urgent = true ∧ r'.urgent = false) ∨ (r.urgent = r'.urgent ∧ s.gre.pointer = h)) →
        exec .greServiceTake s = .next (s.setGre { s.gre with engine := .request h, pointer := h.other }))

/-- R66, R81, R83 to R90, R102, R153, R191: a re-evaluation completes: each grant counted down or removed, the others
shared and then held under R88's caps: 0 in HARD or the monitor's cap in SOFT, the frozen ceiling of an UNCONFIRMED
grant, and for a DRIVE or a RECOVERING grant the ramp base and one ramp of the profile in force, clamped to 1..20000.
RECOVERING is cleared where the share is reached, the ramp base is at the new force; the engine is free; each port has
its STATUS frame in the slot or under way, which carries the values of R154 in the layout of R200, with one entry for
each grant held through Port E or B, and for every grant at Port C. The record's rewrite starts with a copy of the
latest estimate's epoch, accumulator and U, the slip events, the ride settings, the budget in force, each grant as just
written, and each monitor's state and trigger kind. A grant whose countdown reaches 0 is removed: its key's report count
is 0 and its line shows that no grant exists. The estimate record of the frame's epoch is kept beside the budget in
force (log 13), and the countdown's row is the completion it falls in (log 2): the model's choices. -/
def Obligations.ReevaluationCompletes : Prop :=
  (∀ s, s.operating = true → s.gre.engine = .reevaluation →
    ∃ t copy, exec .reevaluationCompletion s = .next t
      ∧ s.countDown.gre = { s.gre with grants := s.countDown.gre.grants }
      ∧ (∀ k, s.countDown.requestedForce k = match s.grant k with
          | none => 0
          | some g => match g.confirmation with
            | .unconfirmed n _ _ => if n ≤ 1 then 0 else g.requested
            | .confirmed => g.requested)
      ∧ (∀ k, s.grant k = none → t.grant k = none)
      ∧ (∀ k g n cause ceiling, s.grant k = some g → g.confirmation = .unconfirmed n cause ceiling → n ≤ 1 →
          t.grant k = none)
      ∧ (∀ k g clamp frozen force, s.grant k = some g →
          (∀ n cause ceiling, g.confirmation = .unconfirmed n cause ceiling → 1 < n) →
          clamp = (match (s.monitor k.monitor).state, (s.monitor k.monitor).cap.get k with
            | .hard, _ => 0
            | .soft, some cap => min (s.countDown.share k) cap
            | _, _ => s.countDown.share k) →
          frozen = (match g.confirmation with
            | .unconfirmed _ _ ceiling => min clamp ceiling
            | .confirmed => clamp) →
          force = (if k.direction = .drive ∨ g.recovering = true then
              min frozen (g.rampBase + max 1 (min 20000 (s.params.s1.get s.profile).ramp))
            else frozen) →
          t.grant k = some { g with
            granted := force, rampBase := force
            recovering := g.recovering && force != s.countDown.share k
            state := deriveState (s.monitor k.monitor) k g.requested force
            confirmation := match g.confirmation with
              | .unconfirmed n cause ceiling => .unconfirmed (n - 1) cause ceiling
              | .confirmed => .confirmed })
      ∧ t.gre = { s.gre with grants := t.gre.grants, engine := .free }
      ∧ (∀ p, ∃ payload, t.port p = (s.port p).placeStatus payload ∧ t.reportedBy p payload)
      ∧ (∀ p, t.port p = (s.port p).placeStatus (t.statusPayload p))
      ∧ t.sup = { s.sup with record := { s.sup.record with valid := false }, rewrite := some copy }
      ∧ (∀ q, s.leu.published = some q →
          copy.epoch = q.estimate.epoch ∧ copy.acc = q.estimate.acc ∧ copy.u = q.estimate.u)
      ∧ copy.events = s.flu.events ∧ copy.budget = s.gre.budget
      ∧ copy.settings = ⟨s.profile.code, s.gbu.settings.pending.map fun q => (q.profile.code, q.kind),
          s.gbu.settings.cls.code, s.gbu.settings.policy.code⟩
      ∧ (∀ k, copy.grants.get k = (t.grant k).map fun g =>
          ⟨g.requested, g.granted, g.applied, g.state, g.recovering, g.overuse⟩)
      ∧ (∀ m, copy.monitors.get m = ⟨(s.monitor m).state, (s.monitor m).trigger⟩)
      ∧ t = { s with
          gre := t.gre, lines := t.lines, ports := t.ports, sup := t.sup,
          flu := { s.flu with reports := t.flu.reports } })
  ∧ (∀ s k g cause frozen, s.operating = true → s.gre.engine = .reevaluation → s.grant k = some g →
    g.confirmation = .unconfirmed 1 cause frozen →
    ∃ t, exec (.grantCountdownExpiry k) s = .next t ∧ exec .reevaluationCompletion s = .next t
      ∧ t.grant k = none ∧ t.flu.reports.get k = 0 ∧ ∀ l, k.line = some l → (t.line l).carried = none)

/-- R84, whole: the front grant's share is min(requested, B_F) under every policy; with no front grant nothing of the
front budget is shared out. -/
def Obligations.FrontShare : Prop :=
  ∀ (s : State) (policy : Policy), (∀ g, s.grant .bFrontBrake = some g →
      State.share (s.setGre { s.gre with policy := policy }) .bFrontBrake = min g.requested s.gre.budget.force.front)
    ∧ (s.grant .bFrontBrake = none → State.share (s.setGre { s.gre with policy := policy }) .bFrontBrake = 0)

/-- R85, R87, whole: under BRAKE_FIRST the rear brake grants are shared first, in full or in floored proportion, and the
drive grant takes what they leave; under FIXED_SPLIT each side has its part of the rear budget and what the other leaves
unrequested of its own. -/
def Obligations.BrakeFirstAndFixedShares : Prop :=
  (∀ s : State, s.gre.policy = .brakeFirst →
    (∀ k, k = .eRearBrake ∨ k = .bRearBrake → s.share k
      = if s.rearBrakeRequests ≤ s.gre.budget.force.rear then s.requestedForce k
        else s.requestedForce k * s.gre.budget.force.rear / s.rearBrakeRequests)
    ∧ s.share .eRearDrive
      = min (s.requestedForce .eRearDrive)
          (s.gre.budget.force.rear - (s.share .eRearBrake + s.share .bRearBrake))
    ∧ (∀ g k, k = .eRearBrake ∨ k = .bRearBrake →
        State.share (s.setGre { s.gre with grants := s.gre.grants.set .eRearDrive g }) k = s.share k)
    ∧ (s.share .eRearBrake + s.share .bRearBrake = s.gre.budget.force.rear → s.share .eRearDrive = 0))
  ∧ (∀ (s : State) (ds bs : Nat), s.gre.policy = .fixedSplit → ds = s.gre.budget.force.rear * min 1000 s.params.s2.drivePm / 1000 →
    bs = s.gre.budget.force.rear - ds →
    s.share .eRearDrive = min (s.requestedForce .eRearDrive) (ds + (bs - s.rearBrakeRequests))
    ∧ (∀ k, k = .eRearBrake ∨ k = .bRearBrake → s.share k
        = if s.rearBrakeRequests ≤ bs + (ds - s.requestedForce .eRearDrive) then s.requestedForce k
          else s.requestedForce k * (bs + (ds - s.requestedForce .eRearDrive)) / s.rearBrakeRequests))

/-- R86, whole: under PROPORTIONAL every rear grant stands equal: its request when all fit, else its floored
proportion; then at most two newtons stay unallocated, one for each grant beyond the first, and none is handed out. -/
def Obligations.ProportionalShares : Prop :=
  ∀ s : State, s.gre.policy = .proportional →
    (∀ k, k.wheel = .rear → s.share k
      = if s.rearRequests ≤ s.gre.budget.force.rear then s.requestedForce k
        else s.requestedForce k * s.gre.budget.force.rear / s.rearRequests)
    ∧ (s.gre.budget.force.rear < s.rearRequests →
        wheelSum .rear s.share ≤ s.gre.budget.force.rear ∧ s.gre.budget.force.rear ≤ wheelSum .rear s.share + 2
          ∧ s.gre.budget.force.rear ≤ wheelSum .rear s.share
              + ((allKeys.filter fun k => k.wheel == .rear && (s.grant k).isSome).length - 1))

/-- R79, R84 to R87: under every policy the shares of each wheel's grants fit in its budget in force, and no share
exceeds its request. -/
def Obligations.SharesFitBudget : Prop :=
  ∀ s : State, (∀ w, wheelSum w s.share ≤ s.gre.budget.force.get w) ∧ ∀ k, s.share k ≤ s.requestedForce k

/-- R78, R88, R91 to R95, R102: a GRANT_REQUEST that passes its checks, in RUNNING, completes: the key's grant holds the
clamped amount, granted the least of the target and the room. The target is that amount under R88's caps: 0 in HARD or
the monitor's cap in SOFT, the frozen ceiling of an UNCONFIRMED grant, and, for a DRIVE or a RECOVERING grant, the ramp
base, 0 where there was no grant, and one ramp of the profile in force, clamped to 1..20000. The room is the wheel's
budget in force less the granted forces of its other grants, which under BRAKE_FIRST a rear brake request
enlarges at the drive grant's cost; the engine is free and the port answered with code, force and epoch. The ramp base of
a grant resized becomes the granted force where the direction is not DRIVE and RECOVERING is clear, and else only follows
it down, so requests served for a paced grant gain it one ramp together. No other key changes but the drive grant so cut,
which keeps its request, its flags and its confirmation, its ramp base following down and its state derived afresh. That
a grant the request creates is CONFIRMED, as R92 has it, though its port may have gone LOST while the engine was busy
(R81) is the model's choice (log 43). -/
def Obligations.GrantRequestServed : Prop :=
  ∀ s h r k clamp frozen target room, s.running = true → s.inService .grantRequest = some (h, r) →
    r.named h = .key k → r.byte 4 ≤ 1 →
    clamp = (match (s.monitor k.monitor).state, (s.monitor k.monitor).cap.get k with
      | .hard, _ => 0
      | .soft, some cap => min (min 20000 (r.unsigned 2)) cap
      | _, _ => min 20000 (r.unsigned 2)) →
    frozen = (match (s.grant k).map Grant.confirmation with
      | some (.unconfirmed _ _ ceiling) => min clamp ceiling
      | _ => clamp) →
    target = (if k.direction = .drive ∨ (s.grant k).any Grant.recovering = true then
        min frozen (((s.grant k).map Grant.rampBase).getD 0 + max 1 (min 20000 (s.params.s1.get s.profile).ramp))
      else frozen) →
    room = s.gre.budget.force.get k.wheel
      - ((allKeys.filter fun j => j != k && j.wheel == k.wheel).map fun j => (s.grantedForce j).getD 0).sum →
    ∃ t g c, exec .grantRequest s = .next t ∧ t.grant k = some g
      ∧ c = (if s.gre.policy = .brakeFirst ∧ (k = .eRearBrake ∨ k = .bRearBrake) then
          min (target - room) ((s.grantedForce .eRearDrive).getD 0) else 0)
      ∧ g.requested = min 20000 (r.unsigned 2)
      ∧ g.granted = min target (room + c)
      ∧ g.state = deriveState (s.monitor k.monitor) k g.requested g.granted
      ∧ (s.grant k = none →
          g.applied = none ∧ g.recovering = false ∧ g.overuse = false ∧ g.confirmation = .confirmed
            ∧ g.rampBase = if k.direction = .drive then 0 else g.granted)
      ∧ (∀ old, s.grant k = some old →
          g.applied = old.applied ∧ g.recovering = old.recovering ∧ g.overuse = old.overuse
            ∧ g.confirmation = old.confirmation
            ∧ g.rampBase = if k.direction = .drive ∨ old.recovering = true then min old.rampBase g.granted
                else g.granted)
      ∧ (∀ j, j ≠ k → j ≠ .eRearDrive → t.grant j = s.grant j)
      ∧ (k ≠ .eRearDrive → t.grant .eRearDrive = (s.grant .eRearDrive).map fun d =>
          if c = 0 then d
          else { d with
            granted := d.granted - c, rampBase := min d.rampBase (d.granted - c)
            state := deriveState (s.monitor .rearSpin) .eRearDrive d.requested (d.granted - c) })
      ∧ t.port h.port = (s.port h.port).answer
          ⟨.grantRequest, g.state.replyCode, bytesOfNat g.granted ++ bytesOfWord s.gre.budget.epoch⟩
      ∧ t = { s with
          gre := { s.gre with engine := .free, grants := t.gre.grants }, ports := t.ports, lines := t.lines }

/-- R91, R95, R96: a refused GRANT_REQUEST or GRANT_RELEASE changes no grant: NOT_READY outside RUNNING, then
BAD_FIELD, then NOT_PERMITTED, then, for a release, NOT_HELD. -/
def Obligations.GrantRequestsRefused : Prop :=
  (∀ s h r, s.operating = true → s.inService .grantRequest = some (h, r) →
    ∀ code, (s.running = false ∧ code = ReplyCode.notReady)
        ∨ (s.running = true ∧ (r.named h = .bad ∨ 1 < r.byte 4) ∧ code = .badField)
        ∨ (s.running = true ∧ r.named h = .foreign ∧ r.byte 4 ≤ 1 ∧ code = .notPermitted) →
    exec .grantRequest s = .next ((s.setGre { s.gre with engine := .free }).answer h.port
      ⟨.grantRequest, code, bytesOfNat 0 ++ bytesOfWord s.gre.budget.epoch⟩))
  ∧ (∀ s h r, s.operating = true → s.inService .grantRelease = some (h, r) →
    ∀ code, (s.running = false ∧ code = ReplyCode.notReady)
        ∨ (s.running = true ∧ r.named h = .bad ∧ code = .badField)
        ∨ (s.running = true ∧ r.named h = .foreign ∧ code = .notPermitted)
        ∨ (s.running = true ∧ (∃ k, r.named h = .key k ∧ s.grant k = none) ∧ code = .notHeld) →
    exec .grantRelease s = .next ((s.setGre { s.gre with engine := .free }).answer h.port
      ⟨.grantRelease, code, []⟩))

/-- R66, R96, R102, R136: a GRANT_RELEASE of a held key in RUNNING removes the grant, is answered OK, zeroes the key's
report count and delivers the grant's absence to its line; no monitor, no other grant changes. -/
def Obligations.GrantReleased : Prop :=
  ∀ s h r k g, s.running = true → s.inService .grantRelease = some (h, r) → r.named h = .key k →
    s.grant k = some g →
    ∃ t, exec .grantRelease s = .next t ∧ t.grant k = none ∧ (∀ j, j ≠ k → t.grant j = s.grant j)
      ∧ t.port h.port = (s.port h.port).answer ⟨.grantRelease, .ok, []⟩
      ∧ t.flu = { s.flu with reports := s.flu.reports.set k 0 }
      ∧ (∀ l, t.line l = if k.line = some l then (s.line l).deliver none else s.line l)
      ∧ t = { s with
          gre := { s.gre with engine := .free, grants := t.gre.grants }, ports := t.ports, lines := t.lines,
          flu := t.flu }

/-- R66, R97: a USE_REPORT for a held key in RUNNING: applied takes the clamped force, OVERUSE says whether it exceeds
the granted force, the key's report is fresh for 25 budget computations; no reply, no line, no force changes. Any other
report is discarded and changes nothing but the port's queue. -/
def Obligations.UseReported : Prop :=
  (∀ s h r k g, s.running = true → s.inService .useReport = some (h, r) → r.named h = .key k → s.grant k = some g →
    exec .useReport s = .next ({ s with
      gre := { s.gre with
        engine := .free
        grants := s.gre.grants.set k (some { g with
          applied := some (min 20000 (r.unsigned 2)), overuse := decide (g.granted < min 20000 (r.unsigned 2)) }) }
      flu := { s.flu with reports := s.flu.reports.set k 25 } }.setPort h.port (s.port h.port).dequeue.handOn))
  ∧ (∀ s h r, s.operating = true → s.inService .useReport = some (h, r) →
      (s.running = false ∨ r.named h = .bad ∨ r.named h = .foreign ∨ ∃ k, r.named h = .key k ∧ s.grant k = none) →
      exec .useReport s = .next ((s.setGre { s.gre with engine := .free }).setPort h.port
        (s.port h.port).dequeue.handOn))

/-! ## Ceiling lines -/

/-- R131: a period start takes the preset code and raises the level; a pulse end lowers the level at the current code;
either on its own line alone. That each row is its event whatever the timer reads, a pulse end not before its time, is
the model's choice (log 1). In a microsecond, which a step on an empty queue is by the model's choice (log 4), the
running period timer of each line goes on by one and rests at its current code while the level is high, else at 999; a
stopped one stays stopped. R129, R132, R133: a delivery takes the force and works out its code; a code at or above the
current one sets the preset alone; a lower one becomes the current code and the preset at once, and the level stays high
only where the period timer is below it. -/
def Obligations.LinePulses : Prop :=
  (∀ (l : CeilingLine) force c,
    c = (match force with
      | none => 50
      | some g => 100 + min g l.fullScale * 800 / l.fullScale) →
    (l.current ≤ c → l.deliver force = { l with carried := force, preset := c })
    ∧ (c < l.current → ∃ high, l.deliver force = { l with carried := force, current := c, preset := c, high := high }
        ∧ (high = true ↔ l.high = true ∧ ∃ n, l.timer = some n ∧ n < c)))
  ∧ (∀ s l, s.pending = [] → s.operating = true →
    ∃ t, step s = .next t
      ∧ ((s.line l).timer = none → t.line l = s.line l)
      ∧ (∀ n limit, (s.line l).timer = some n → limit = (if (s.line l).high then (s.line l).current else 999) →
          t.line l = { s.line l with timer := some (if n < limit then n + 1 else n) }))
  ∧ ∀ s l n, s.operating = true → (s.line l).timer = some n →
    exec (.linePeriodStart l) s = .next (s.setLine l { s.line l with
      timer := some 0, current := (s.line l).preset, high := true })
    ∧ ((s.line l).high = true → n ≤ (s.line l).current →
      exec (.linePulseEnd l) s = .next (s.setLine l { s.line l with
        timer := some (s.line l).current, high := false }))

/-- R129, R130: the code of a granted force at a full scale of 1000 to 20000 N is 100 to 900, never falls as the force
rises, and encodes no more than the force, and less by under two steps of FS/800 where the force is within the full
scale. -/
def Obligations.CodeEncodesForce : Prop :=
  ∀ fs g g', 1000 ≤ fs → fs ≤ 20000 → g ≤ g' →
    100 ≤ targetCode fs (some g) ∧ targetCode fs (some g) ≤ 900
    ∧ targetCode fs (some g) ≤ targetCode fs (some g')
    ∧ encodedForce fs (targetCode fs (some g)) ≤ g
    ∧ (g ≤ fs → g * 800 < encodedForce fs (targetCode fs (some g)) * 800 + 2 * fs)

/-! ## Links -/

/-- R141, R142: bytes at a port. READY, or HUNTING after a rest of 30 microseconds, a byte begins a frame; in
ASSEMBLING, after a gap of 10 microseconds or less, it joins, the first 31 kept and all counted, and after a longer one
the frame ends first and the byte is looked at then; HUNTING, before the line has rested for 30, it is discarded and
restarts the idle time; rest makes the assembly READY. That the gap is the idle time less the byte's own ten
microseconds is the model's reading (log 23). That the row RECEIVE_READY_EXPIRY makes a HUNTING assembly READY whatever
its idle time reads, where R142 has 30 microseconds, is the model's choice (log 1). -/
def Obligations.BytesAssemble : Prop :=
  ∀ s p byte stopFault r, s.operating = true → r = (s.port p).receiver →
    (r.state = .ready ∨ (r.state = .hunting ∧ 30 ≤ r.gap) → exec (.byteReceived p byte stopFault) s = .next (s.setPort p { s.port p with
      receiver := ⟨.assembling, [byte], 1, stopFault, 0⟩ }))
    ∧ (r.state = .assembling → r.gap ≤ 10 → exec (.byteReceived p byte stopFault) s = .next (s.setPort p { s.port p with
        receiver := ⟨.assembling, if r.bytes.length < 31 then r.bytes ++ [byte] else r.bytes, r.count + 1,
          r.fault || stopFault, 0⟩ }))
    ∧ (r.state = .assembling → 10 < r.gap → ∃ t, exec (.frameReceived p) s = .next t
        ∧ exec (.byteReceived p byte stopFault) s = exec (.byteReceived p byte stopFault) t)
    ∧ (r.state = .hunting → r.gap < 30 → exec (.byteReceived p byte stopFault) s = .next (s.setPort p { s.port p with
        receiver := { r with idle := 0 } }))
    ∧ (r.state = .hunting → exec (.receiveReadyExpiry p) s = .next (s.setPort p { s.port p with
        receiver := { r with state := .ready } }))

/-- R142, R143: a frame that ends is bad, and counted once, saturating at 255, when a byte had a stop fault, the check
byte is wrong, fewer than 3 bytes came, the kind has no code, the length is above 28, differs from the bytes counted
less 3 or is not one the kind is given, or the port has no right to the kind; nothing else of the part changes, and the
assembly hunts. Every frame that does not pass the four tests of R143 as a request is so bad. That the row ends the
frame whenever it is sent is the model's reading (log 23). -/
def Obligations.BadFrameCounted : Prop :=
  ∀ s p r, s.operating = true → r = (s.port p).receiver → r.state = .assembling →
    ((∀ q, ¬r.validAs p q) ∨ r.fault = true ∨ r.count < 3 ∨ r.bytes.getLast? ≠ some (checkByte r.bytes.dropLast)
      ∨ ∃ kind len rest, r.bytes = kind :: len :: rest
        ∧ (kindOfCode kind.toNat = none ∨ 28 < len.toNat ∨ r.count ≠ len.toNat + 3
          ∨ ∃ k, kindOfCode kind.toNat = some k ∧ (k.accepts len.toNat = false ∨ p.mayReceive k = false))) →
    exec (.frameReceived p) s = .next (s.setPort p { s.port p with
      receiver := ⟨.hunting, [], 0, false, r.idle⟩
      badFrames := min 255 ((s.port p).badFrames + 1) })

/-- R101, R143, R145, R146, R195: a valid frame, one that passes the four tests of R143 by the codes, rights and lengths
of R144 and R198, brings its port UP with a silence count of 0 and confirms the grants held through a port that was not
UP. A LINK_HOLD does nothing else; any other kind joins the queue, whose head is handed on when it may be, or, where
four wait, is discarded and counted. At Port C that comes UP the replies handed over while it was not UP, which R195
does not send, leave their queue unsent, and a place they free lets the head be handed on: that they leave here is the
model's choice (log 41). That the row FRAME_RECEIVED ends the frame in assembly whatever its idle time is the model's
reading (log 23), and that the row LINK_HOLD ends it when it is the LINK_HOLD is the model's choice (log 25). -/
def Obligations.ValidFrameArrives : Prop :=
  (∀ s p q x y, s.operating = true → (s.port p).receiver.state = .assembling →
    (s.port p).receiver.validAs p q →
    x = { s.port p with receiver := ⟨.hunting, [], 0, false, (s.port p).receiver.idle⟩, silence := 0, state := .up } →
    y = (if p = .c ∧ (s.port p).state ≠ .up then
        { x with
          replies := x.replies.filter fun r => !r.away
          outstanding := x.outstanding || x.queue.head?.any fun r =>
            r.kind == .useReport || decide ((x.replies.filter fun r => !r.away).length < 4) }
      else x) →
    ∃ t, exec (.frameReceived p) s = .next t
      ∧ t.port p = (if q.kind = .linkHold then y
          else if y.queue.length < 4 then
            { y with
              queue := y.queue ++ [q]
              outstanding := y.outstanding
                || (y.queue ++ [q]).head?.any fun r => r.kind == .useReport || decide (y.replies.length < 4) }
          else { y with discards := min 255 (y.discards + 1) })
      ∧ (∀ j, j ≠ p → t.port j = s.port j)
      ∧ (q.kind = .linkHold → exec (.linkHold p) s = .next t)
      ∧ (∀ k, t.grant k = if (s.port p).state ≠ .up ∧ k ∈ p.keys then
          (s.grant k).map fun g => { g with confirmation := .confirmed } else s.grant k)
      ∧ t = { s with ports := t.ports, gre := { s.gre with grants := t.gre.grants } })
  ∧ (∀ s p, s.operating = true →
    ((s.port p).receiver.state ≠ .assembling ∨ ∀ q, (s.port p).receiver.validAs p q → q.kind ≠ .linkHold) →
    ∃ t, exec (.linkHold p) s = .next t
      ∧ t.port p = (if p = .c ∧ (s.port p).state ≠ .up then
          { s.port p with
            silence := 0, state := .up, replies := (s.port p).replies.filter fun r => !r.away
            outstanding := (s.port p).outstanding || (s.port p).queue.head?.any fun r =>
              r.kind == .useReport || decide (((s.port p).replies.filter fun r => !r.away).length < 4) }
        else { s.port p with silence := 0, state := .up })
      ∧ (∀ q, q ≠ p → t.port q = s.port q)
      ∧ (∀ k, t.grant k = if (s.port p).state ≠ .up ∧ k ∈ p.keys then
          (s.grant k).map fun g => { g with confirmation := .confirmed } else s.grant k)
      ∧ t = { s with ports := t.ports, gre := { s.gre with grants := t.gre.grants } })

/-- R157: a CHECK_TEST outstanding at a port is served by that port in every start state that operates: a count above 8
is answered BAD_FIELD and leaves the check-test count, a count of 0 to 8 replaces it and is answered OK; it acts on its
own port alone; and the frame of its reply, which a free transmitter of an UP port sends as it stands when its turn
comes, ends in its check byte. That it is a row of its own, served when the sender says, is the model's choice (log 24).
R146, R147: at an answer, of this and of every other request, the answered head leaves the request queue, the others
move up, and the new head becomes outstanding when it is a USE_REPORT or the reply queue has a free place; the reply
joins the reply queue, from which a free transmitter of an UP port takes it where nothing else waits; a USE_REPORT's
answer is the same but for the reply. -/
def Obligations.CheckTestServed : Prop :=
  ∀ s p r, s.operating = true → s.served p .checkTest = some r →
    (8 < r.byte 0 → exec (.checkTest p) s = .next (s.setPort p ((s.port p).answer ⟨.checkTest, .badField, []⟩)))
    ∧ (r.byte 0 ≤ 8 → exec (.checkTest p) s = .next
        (s.setPort p ({ s.port p with checkTest := r.byte 0 }.answer ⟨.checkTest, .ok, []⟩)))
    ∧ (∀ q, q ≠ p → ∀ t, exec (.checkTest p) s = .next t → t.port q = s.port q)
    ∧ (∀ (x : Port) code rest, x.transmitter = .free → x.state = .up → (x.slot = none ∨ x.lastSent = .status) →
        x.replies.map WaitingReply.reply = ⟨.checkTest, code, []⟩ :: rest →
        x.advance.transmitter = .sending .reply (Reply.frame ⟨.checkTest, code, []⟩)
          ∧ (Reply.frame ⟨.checkTest, code, []⟩).getLast?
            = some (checkByte (Reply.frame ⟨.checkTest, code, []⟩).dropLast))
    ∧ (∀ (x : Port) reply, (x.answer reply).queue = x.queue.tail
        ∧ (x.answer reply).outstanding = (x.queue.tail.head?.any fun q =>
            q.kind == .useReport || decide ((x.answer reply).replies.length < 4))
        ∧ (x.transmitter = .free → x.state = .up → x.slot = none → x.replies = [] →
            (x.answer reply).transmitter = .sending .reply reply.frame ∧ (x.answer reply).replies = []))
    ∧ (∀ x : Port, x.dequeue.handOn = { x with
        queue := x.queue.tail
        outstanding := x.queue.tail.head?.any fun q => q.kind == .useReport || decide (x.replies.length < 4) })

/-- R151, R152, R158: a frame sent leaves its gap; after the gap the transmitter takes of two waiting sorts the other
than its last sent, a STATUS frame's check byte inverted while a check test counts down; with nothing waiting it is
free. Replies of a port that is not UP are removed unsent. A reply that joins the queue is marked there when the port is
not UP at the hand-over: what R195 asks of it at Port C, and when, is log 41's (PortCapacitiesKept, ValidFrameArrives).
A reply taken, from a full reply queue too, lets the head of the request queue be handed on where R146 allows. That a
reply removed unsent counts as the last sent, so that STATUS is the next of two waiting sorts, is the model's choice
(log 14). -/
def Obligations.TransmitterTakesTurns : Prop :=
  ∀ s p x, s.operating = true → x = s.port p →
    (∀ sort bytes, x.transmitter = .sending sort bytes →
      exec (.frameSent p) s = .next (s.setPort p { x with transmitter := .gap }))
    ∧ (x.transmitter = .gap →
      ∃ t, exec (.transmitGapExpiry p) s = .next t ∧ (∀ q, q ≠ p → t.port q = s.port q) ∧ t = { s with ports := t.ports }
        ∧ (x.replies = [] → x.slot = none → (t.port p).transmitter = .free)
        ∧ (∀ payload, x.slot = some payload → (x.replies = [] ∨ x.lastSent = .reply) →
            (t.port p).slot = none ∧ (t.port p).lastSent = .status ∧ (t.port p).checkTest = x.checkTest - 1
              ∧ (t.port p).replies = x.replies
              ∧ (t.port p).transmitter = .sending .status
                (if 0 < x.checkTest then invertCheck (frameOf .status payload) else frameOf .status payload))
        ∧ (∀ r rest, x.replies = r :: rest → x.state = .up → (x.slot = none ∨ x.lastSent = .status) →
            (t.port p).transmitter = .sending .reply r.reply.frame ∧ (t.port p).replies = rest
              ∧ (t.port p).slot = x.slot ∧ (t.port p).lastSent = .reply ∧ (t.port p).checkTest = x.checkTest)
        ∧ (x.state ≠ .up → x.slot = none → (t.port p).replies = [] ∧ (t.port p).transmitter = .free
            ∧ (t.port p).checkTest = x.checkTest)
        ∧ (∀ payload, x.state ≠ .up → x.slot = some payload → x.replies ≠ [] → x.lastSent = .status →
            (t.port p).replies = x.replies.tail ∧ (t.port p).slot = none ∧ (t.port p).lastSent = .status
              ∧ (t.port p).checkTest = x.checkTest - 1
              ∧ (t.port p).transmitter = .sending .status
                (if 0 < x.checkTest then invertCheck (frameOf .status payload) else frameOf .status payload))
        ∧ (t.port p).queue = x.queue
        ∧ (t.port p).outstanding = (x.outstanding || x.queue.head?.any fun q =>
            q.kind == .useReport || decide ((t.port p).replies.length < 4)))
    ∧ ∀ reply, x.transmitter ≠ .free → (x.answer reply).replies = x.replies ++ [⟨reply, x.state != .up⟩]

/-! ## The calibration store -/

/-- R155, R167 to R169, R171: outside RUNNING CAL_OPEN, CAL_CLOSE and CAL_READ are answered NOT_READY. CAL_OPEN opens
the session when Port C is UP, the service input is ASSERTED and the machine stands still, else it is refused; CAL_CLOSE
of an open session closes it; a CAL_READ that passes its checks is answered with the sector, the offset and the bytes as
they stand in the flash. A refusal, for a field outside its range before a closed session, changes nothing but the last
result. Each is served at its own row (log 24). -/
def Obligations.SessionAndReads : Prop :=
  ∀ s r, s.operating = true → s.cst.operation = none →
    (∀ code, s.served .c .calOpen = some r →
      code = (if s.running = false then ReplyCode.notReady
        else if (s.port .c).state ≠ .up ∨ s.cst.serviceAsserted = false then .noService
        else if 0 < s.sif.vRef ∨ s.sif.vRefValid = false then .notStandstill else .ok) →
      exec .calOpen s = .next ((s.setCst { s.cst with
        session := if code = .ok then .opened else s.cst.session, last := some (.calOpen, code) }).answer .c
          ⟨.calOpen, code, []⟩))
    ∧ (∀ code, s.served .c .calClose = some r →
        code = (if s.running = false then ReplyCode.notReady
          else if s.cst.session = .closed then .noService else .ok) →
        exec .calClose s = .next ((s.setCst { s.cst with
          session := if code = .ok then .closed else s.cst.session, last := some (.calClose, code) }).answer .c
            ⟨.calClose, code, []⟩))
    ∧ (∀ k, s.running = true → s.served .c .calRead = some r → s.cst.session = .opened →
        sectorOfCode (r.byte 0) = some k → 1 ≤ r.byte 2 → r.byte 2 ≤ 24 → r.byte 1 + r.byte 2 ≤ 256 →
        exec .calRead s = .next ((s.setCst { s.cst with last := some (.calRead, .ok) }).answer .c
          ⟨.calRead, .ok, [byteOf (r.byte 0), byteOf (r.byte 1)]
            ++ (List.range (r.byte 2)).map fun i => s.cst.flash.read (k.base + r.byte 1 + i)⟩))
    ∧ (∀ code, s.served .c .calRead = some r →
        code = (if s.running = false then some ReplyCode.notReady
          else if sectorOfCode (r.byte 0) = none ∨ r.byte 2 = 0 ∨ 24 < r.byte 2 ∨ 256 < r.byte 1 + r.byte 2 then
            some .badField
          else if s.cst.session = .closed then some .noService else none) →
        ∀ c, code = some c →
          exec .calRead s
            = .next ((s.setCst { s.cst with last := some (.calRead, c) }).answer .c ⟨.calRead, c, []⟩))

/-- R167, R170, R172, R173, R175, R176: an erase of S0 to S2 in an unlocked store starts 20 ms; a program of erased
bytes inside a sector, unlocked and without LOW_SUPPLY, 1 ms; a lock without LOW_SUPPLY 1 ms; a wipe 80 ms; the flash is
not touched yet. Each of the four that fails a check is refused by the first that fails, NOT_READY outside RUNNING
before any other, and nothing changes but the last result. Each is served at its own row (log 24). -/
def Obligations.OperationsStart : Prop :=
  (∀ s r, s.running = true → s.cst.operation = none → s.cst.session = .opened →
    (∀ k, s.served .c .calErase = some r → sectorOfCode (r.byte 0) = some k → k ≠ .s3 → s.cst.lock = .unlocked →
      exec .calErase s = .next (s.setCst { s.cst with operation := some ⟨.erase k, 20000⟩ }))
    ∧ (∀ k, s.served .c .calProgram = some r → sectorOfCode (r.byte 0) = some k → s.cst.lock = .unlocked →
        s.sup.low = false → r.byte 1 + (r.payload.drop 2).length ≤ 256 →
        (∀ i, i < (r.payload.drop 2).length → s.cst.flash.read (k.base + r.byte 1 + i) = 0xFF) →
        exec .calProgram s
          = .next (s.setCst { s.cst with operation := some ⟨.program k (r.byte 1) (r.payload.drop 2), 1000⟩ }))
    ∧ (s.served .c .calLock = some r → s.sup.low = false →
        exec .calLock s = .next (s.setCst { s.cst with operation := some ⟨.lock, 1000⟩ }))
    ∧ (s.served .c .calWipe = some r →
        exec .calWipe s = .next (s.setCst { s.cst with operation := some ⟨.wipe 0 true, 80000⟩ })))
  ∧ (∀ (s : State) r code, s.operating = true → s.cst.operation = none →
    (s.served .c .calProgram = some r →
      code = (if s.running = false then some ReplyCode.notReady
        else match sectorOfCode (r.byte 0) with
          | none => some .badField
          | some k =>
            if 256 < r.byte 1 + (r.payload.drop 2).length then some .badField
            else if s.cst.session = .closed then some .noService
            else if s.cst.lock = .locked then some .locked
            else if s.sup.low = true then some .lowSupply
            else if ¬∀ i : Nat, i < (r.payload.drop 2).length → s.cst.flash.read (k.base + r.byte 1 + i) = 0xFF then
              some .notErased
            else none) →
      ∀ c, code = some c →
        exec .calProgram s
          = .next ((s.setCst { s.cst with last := some (.calProgram, c) }).answer .c ⟨.calProgram, c, []⟩))
    ∧ (s.served .c .calErase = some r →
        code = (if s.running = false then some ReplyCode.notReady
          else if sectorOfCode (r.byte 0) = none ∨ sectorOfCode (r.byte 0) = some .s3 then some .badField
          else if s.cst.session = .closed then some .noService
          else if s.cst.lock = .locked then some .locked else none) →
        ∀ c, code = some c →
          exec .calErase s
            = .next ((s.setCst { s.cst with last := some (.calErase, c) }).answer .c ⟨.calErase, c, []⟩))
    ∧ (s.served .c .calLock = some r →
        code = (if s.running = false then some ReplyCode.notReady
          else if s.cst.session = .closed then some .noService
          else if s.sup.low = true then some .lowSupply else none) →
        ∀ c, code = some c →
          exec .calLock s
            = .next ((s.setCst { s.cst with last := some (.calLock, c) }).answer .c ⟨.calLock, c, []⟩))
    ∧ (s.served .c .calWipe = some r →
        code = (if s.running = false then some ReplyCode.notReady
          else if s.cst.session = .closed then some .noService else none) →
        ∀ c, code = some c →
          exec .calWipe s
            = .next ((s.setCst { s.cst with last := some (.calWipe, c) }).answer .c ⟨.calWipe, c, []⟩)))

/-- R170, R172, R173, R175: the completions. An array that obeys leaves the sector erased, the bytes programmed, the
lock word 0x00 and the store LOCKED, each answered OK; an array that leaves other bytes is answered VERIFY_FAIL, and a
lock that does not read back leaves the lock state. A program and a lock only clear bits, whatever the array left, so a
lock word that read 0x00 still does. Bytes outside the target stay, and the operation is over. That the row completes
it whatever time remains (log 1), and carries what the array left (log 17), are the model's choices. -/
def Obligations.OperationsComplete : Prop :=
  (∀ (s : State) (k : Sector) n left, s.operating = true → s.cst.flash.wf = true → s.cst.operation = some ⟨.erase k, n⟩ →
    ∃ (t : State) (code : ReplyCode), exec (.calEraseCompletion left) s = .next t
      ∧ code = (if ∀ i : Nat, i < 256 → t.cst.flash.read (k.base + i) = 0xFF then ReplyCode.ok else .verifyFail)
      ∧ (left = none → code = .ok)
      ∧ (∀ a, a < k.base ∨ k.base + 256 ≤ a → t.cst.flash.read a = s.cst.flash.read a)
      ∧ t = ({ s with cst := { s.cst with
          flash := t.cst.flash, operation := none, last := some (.calErase, code) } }).answer .c ⟨.calErase, code, []⟩)
  ∧ (∀ s k offset bytes n left, s.operating = true → s.cst.flash.wf = true →
      s.cst.operation = some ⟨.program k offset bytes, n⟩ → offset + bytes.length ≤ 256 →
      ∃ t code, exec (.calProgramCompletion left) s = .next t
        ∧ code = (if (List.range bytes.length).map (fun i => t.cst.flash.read (k.base + offset + i)) = bytes then
            ReplyCode.ok else .verifyFail)
        ∧ (left = none → ∀ i, i < bytes.length → t.cst.flash.read (k.base + offset + i)
            = s.cst.flash.read (k.base + offset + i) &&& bytes.getD i 0xFF)
        ∧ (left = none → (∀ i, i < bytes.length → s.cst.flash.read (k.base + offset + i) = 0xFF) → code = .ok)
        ∧ (∀ a, t.cst.flash.read a &&& s.cst.flash.read a = t.cst.flash.read a)
        ∧ (∀ a, a < k.base + offset ∨ k.base + offset + bytes.length ≤ a →
            t.cst.flash.read a = s.cst.flash.read a)
        ∧ t = ({ s with cst := { s.cst with
            flash := t.cst.flash, operation := none, last := some (.calProgram, code) } }).answer .c
              ⟨.calProgram, code, []⟩)
  ∧ (∀ s n left, s.operating = true → s.cst.flash.wf = true → s.cst.operation = some ⟨.lock, n⟩ →
      ∃ t, exec (.calLockCompletion left) s = .next t
        ∧ (left = none → t.cst.flash.read (Sector.base .s3) = 0)
        ∧ (∀ a, t.cst.flash.read a &&& s.cst.flash.read a = t.cst.flash.read a)
        ∧ (t.cst.flash.read (Sector.base .s3) = 0 →
            t.cst.lock = .locked ∧ t.cst.last = some (.calLock, .ok)
              ∧ t.port .c = (s.port .c).answer ⟨.calLock, .ok, []⟩)
        ∧ (t.cst.flash.read (Sector.base .s3) ≠ 0 →
            t.cst.lock = s.cst.lock ∧ t.cst.last = some (.calLock, .verifyFail)
              ∧ t.port .c = (s.port .c).answer ⟨.calLock, .verifyFail, []⟩)
        ∧ (∀ a, a ≠ Sector.base .s3 → t.cst.flash.read a = s.cst.flash.read a)
        ∧ t = { s with ports := t.ports, cst := { s.cst with
            flash := t.cst.flash, lock := t.cst.lock, operation := none, last := t.cst.last } })

/-- R176: a wipe erases the four sectors one after another, no byte of another sector changing, and remembers whether
each read back erased; its completion answers OK or VERIFY_FAIL accordingly and makes the store UNLOCKED whatever the
result. That each row completes whatever time remains of the operation (log 1), that an erase carries what the array
left (log 17) and that the completion may take the fourth erase itself (log 26) are the model's choices. -/
def Obligations.WipeErasesAll : Prop :=
  (∀ (s : State) erased clean n (k : Sector) left, s.operating = true → s.cst.operation = some ⟨.wipe erased clean, n⟩ →
    sectorOfCode erased = some k →
    ∃ t : State, exec (.wipeSectorEraseCompletion left) s = .next t
      ∧ (left = none → ∀ i, i < 256 → t.cst.flash.read (k.base + i) = 0xFF)
      ∧ t.cst.operation = some ⟨.wipe (erased + 1)
          (clean && decide (∀ i : Nat, i < 256 → t.cst.flash.read (k.base + i) = 0xFF)), n⟩
      ∧ (s.cst.flash.wf = true → ∀ a, a < k.base ∨ k.base + 256 ≤ a → t.cst.flash.read a = s.cst.flash.read a)
      ∧ t = { s with cst := { s.cst with flash := t.cst.flash, operation := t.cst.operation } })
  ∧ (∀ s clean n left, s.operating = true → s.cst.operation = some ⟨.wipe 4 clean, n⟩ →
      exec (.calWipeCompletion left) s = .next ((s.setCst { s.cst with
        operation := none, lock := .unlocked
        last := some (.calWipe, if clean then .ok else .verifyFail) }).answer .c
          ⟨.calWipe, if clean then .ok else .verifyFail, []⟩))
  ∧ (∀ s clean n left t, s.operating = true → s.cst.operation = some ⟨.wipe 3 clean, n⟩ →
      exec (.wipeSectorEraseCompletion left) s = .next t →
      exec (.calWipeCompletion left) s = exec (.calWipeCompletion none) t)

/-- R166, R169: the service input's filter. The fourth sample running that differs takes the level, which SVC_ASSERTED
and SVC_RELEASED name; a change to RELEASED closes the session; a sample that agrees clears the count. That the rows of
the two changes are the samples they fall at is the model's choice (log 2). -/
def Obligations.ServiceInputFiltered : Prop :=
  ∀ s level, s.operating = true →
    (s.cst.serviceAsserted = level →
      exec (.svcSample level) s = .next (s.setCst { s.cst with serviceCount := 0 }))
    ∧ (s.cst.serviceAsserted ≠ level → s.cst.serviceCount < 3 →
        exec (.svcSample level) s = .next (s.setCst { s.cst with serviceCount := s.cst.serviceCount + 1 }))
    ∧ (s.cst.serviceAsserted = false → 3 ≤ s.cst.serviceCount →
        exec .svcAsserted s = .next (s.setCst { s.cst with serviceAsserted := true, serviceCount := 0 })
          ∧ exec (.svcSample true) s = exec .svcAsserted s)
    ∧ (s.cst.serviceAsserted = true → 3 ≤ s.cst.serviceCount →
        exec .svcReleased s
            = .next (s.setCst { s.cst with serviceAsserted := false, serviceCount := 0, session := .closed })
          ∧ exec (.svcSample false) s = exec .svcReleased s)

/-! ## The supply supervisor -/

/-- R181: the warning comparator, at a supply of 6.0 V or more with the loss comparator clear, whose count is then 0: the
fourth sample running below the level sets LOW_SUPPLY, the fourth above the level by more than 0.3 V clears it, and a
sample that does not count returns the count to 0; LOW_SUPPLY acts on nothing at once. A sample below
6.0 V lies below every level. R180: the count of the supply-loss
comparator: a first sample below 6.0 V while CLEAR, or above 6.5 V while TRIPPED, takes it from 0 to 1, and a sample at
6.0 V or above, or at 6.5 V or below, returns it to 0; a part that operates takes the same sample at the warning
comparator, a held one at the loss comparator alone. That the rows of the changes are the samples they fall at is the
model's choice (log 2). -/
def Obligations.WarningComparator : Prop :=
  (∀ s mv, s.operating = true → s.sup.tripped = false → 6000 ≤ mv →
    (s.sup.low = false → mv < s.sup.level.millivolts →
      exec (.supplySample mv) s = .next (s.setSup { s.sup with
        tripCount := 0, low := decide (3 ≤ s.sup.lowCount)
        lowCount := if 3 ≤ s.sup.lowCount then 0 else s.sup.lowCount + 1 })
      ∧ (3 ≤ s.sup.lowCount → exec (.lowSupplySet mv) s = exec (.supplySample mv) s))
    ∧ (s.sup.low = true → s.sup.level.millivolts + 300 < mv →
        exec (.supplySample mv) s = .next (s.setSup { s.sup with
          tripCount := 0, low := decide (s.sup.lowCount < 3)
          lowCount := if 3 ≤ s.sup.lowCount then 0 else s.sup.lowCount + 1 })
        ∧ (3 ≤ s.sup.lowCount → exec (.lowSupplyClear mv) s = exec (.supplySample mv) s))
    ∧ (s.sup.low = false → s.sup.level.millivolts ≤ mv →
        exec (.supplySample mv) s = .next (s.setSup { s.sup with tripCount := 0, lowCount := 0 }))
    ∧ (s.sup.low = true → mv ≤ s.sup.level.millivolts + 300 →
        exec (.supplySample mv) s = .next (s.setSup { s.sup with tripCount := 0, lowCount := 0 })))
  ∧ ∀ s mv n,
    (s.sup.tripCount = 0 ∧ (s.sup.tripped = false ∧ mv < 6000 ∨ s.sup.tripped = true ∧ 6500 < mv) ∧ n = 1)
      ∨ ((s.sup.tripped = false ∧ 6000 ≤ mv ∨ s.sup.tripped = true ∧ mv ≤ 6500) ∧ n = 0) →
    ∃ t, exec (.supplySample mv) s = .next t
      ∧ t = s.setSup { s.sup with tripCount := n, low := t.sup.low, lowCount := t.sup.lowCount }
      ∧ (s.operating = true → mv < 6000 → t.sup.low = (s.sup.low || decide (3 ≤ s.sup.lowCount))
          ∧ t.sup.lowCount = if s.sup.low = true ∨ 3 ≤ s.sup.lowCount then 0 else s.sup.lowCount + 1)
      ∧ (s.operating = false → t.sup.low = s.sup.low ∧ t.sup.lowCount = s.sup.lowCount)

/-- R137, R161, R177, R180 to R182, R184, R191: the part enters RESET from operation by its supply or its reset line,
with that cause: the lines are held low at code 0, the ports drop what they hold, nothing is in flight, a sector an
operation was cut short on fails its check, a rewrite cut short leaves the record without its valid mark, and by the
model's reading without contents (log 16), and all the rest stands, the record, the counts and the outage counter among
it. At the second low sample the warning comparator samples too, first (log 19). A reset line or a power-up that finds
the part held, in OFF too, leaves its start state and its cause (log 21). That a MAIN_DOMAIN_POWER_UP finds an operating
part is log 22, that a cut-short record keeps its check word log 39, that the receive assembly of a held part hunts with
its idle time at 0 and its transmitter is free log 40, and that a row of a trip is the sample it falls at log 2. -/
def Obligations.EntersReset : Prop :=
  (∀ s, s.operating = true →
    (∀ mv, s.sup.tripped = false → s.sup.tripCount = 1 → mv < 6000 →
      ∃ t, exec (.supplyLossTrip mv) s = .next t ∧ exec (.supplySample mv) s = .next t
        ∧ t.stoppedWith .reset .supplyLoss ∧ t.standsFrom s
        ∧ t.sup = { s.sup with
            start := .reset, entry := .supplyLoss, tripped := true, tripCount := 0
            low := s.sup.low || decide (3 ≤ s.sup.lowCount)
            lowCount := if s.sup.low = true ∨ 3 ≤ s.sup.lowCount then 0 else s.sup.lowCount + 1
            sensorWait := none, rewrite := none, record := s.sup.recordStopped })
    ∧ (∃ t, exec .rstNAssert s = .next t ∧ t.stoppedWith .reset .resetLine ∧ t.standsFrom s
        ∧ t.sup = { s.sup with
            start := .reset, entry := .resetLine, rstLow := true, sensorWait := none, rewrite := none
            record := s.sup.recordStopped })
    ∧ (∃ t, exec .mainDomainPowerUp s = .next t ∧ t.stoppedWith .reset .supplyLoss ∧ t.standsFrom s
        ∧ t.sup = { s.sup with
            start := .reset, entry := .supplyLoss, tripped := true, tripCount := 0, sensorWait := none
            rewrite := none, record := s.sup.recordStopped }))
  ∧ ∀ s, s.operating = false →
    exec .rstNAssert s = .next (s.setSup { s.sup with rstLow := true })
      ∧ exec .mainDomainPowerUp s = .next (s.setSup { s.sup with tripped := true, tripCount := 0 })

/-- R183 to R186, R191: the ignition input. A tick counts the outage while the part is held, and the fourth sample
running that differs takes the level: to LOW, into OFF with cause IGNITION and the record's valid mark cleared, a part
that operated stopping as at a RESET; to HIGH, out of OFF. The retained domain's power-up leaves OFF, level LOW, counter
255, the record lost and the flag set; the model's choices and readings are these: that the start state before the tick
settles whether it counts as outage (log 20), that the row of a change is the tick it falls at (log 2), that a record
cut short has no contents (log 16) and keeps its check word, as a lost one does (log 39), that the entry cause is kept
from OFF to RESET (log 21), that the receive assembly of a held part hunts with its idle time at 0 and its transmitter is
free (log 40), and what that power-up does to a part that operates (log 22). -/
def Obligations.IgnitionAndRetained : Prop :=
  (∀ s high, s.sup.ignHigh = high → exec (.retainedMsTick high) s = .next (s.setSup { s.sup with
      ignCount := 0, outage := if s.operating then s.sup.outage else min 255 (s.sup.outage + 1) }))
  ∧ (∀ s high, s.sup.ignHigh ≠ high → s.sup.ignCount < 3 →
      exec (.retainedMsTick high) s = .next (s.setSup { s.sup with
        ignCount := s.sup.ignCount + 1
        outage := if s.operating then s.sup.outage else min 255 (s.sup.outage + 1) }))
  ∧ (∀ s, s.sup.ignHigh = true → 3 ≤ s.sup.ignCount →
      ∃ t, exec .ignitionOff s = .next t ∧ exec (.retainedMsTick false) s = .next t
        ∧ (s.operating = true → t.stoppedWith .off .ignition ∧ t.standsFrom s
            ∧ t.sup = { s.sup with
                start := .off, entry := .ignition, ignHigh := false, ignCount := 0, sensorWait := none
                rewrite := none, record := { s.sup.recordStopped with valid := false } })
        ∧ (s.operating = false → t = s.setSup { s.sup with
            start := .off, entry := .ignition, ignHigh := false, ignCount := 0
            outage := min 255 (s.sup.outage + 1), record := { s.sup.record with valid := false } }))
  ∧ (∀ s, s.sup.start = .off → s.sup.ignHigh = false → 3 ≤ s.sup.ignCount → s.sup.tripped = true ∨ s.sup.rstLow = true →
      exec .ignitionOn s = .next (s.setSup { s.sup with
        start := .reset, ignHigh := true, ignCount := 0, outage := min 255 (s.sup.outage + 1) }))
  ∧ (∀ s, ∃ t, exec .retainedDomainPowerUp s = .next t
      ∧ (s.operating = true → t.stoppedWith .off .ignition ∧ t.standsFrom s)
      ∧ (s.operating = false → t = s.setSup t.sup)
      ∧ t.sup = { s.sup with
          start := .off, ignHigh := false, ignCount := 0, entry := .ignition, retentionLost := true, outage := 255
          record := { s.sup.record with contents := none, valid := false }, rewrite := none
          sensorWait := if s.operating then none else s.sup.sensorWait })

/-- R17, R40, R62, R73, R103, R125, R138, R159, R178, R183, R187: a release without a record to start from is a COLD
start in LOADING: every block takes its cold values, the flash stands, and the cause is POWER_ON where retention was
lost, else the entry cause. What only the load sets stands at the built-in values until it completes (log 6, 7), the
sample's wheel fields at VALID and 0 (log 31), and the plausible-tooth count of each VALID wheel, to which R17 gives no
value, at 0 (log 42). The release falls when the last hold ends: at the clearing sample, at the
release of the reset line, or at the ignition's return; that the row of a change is the sample it falls at is log 2. -/
def Obligations.ColdRelease : Prop :=
  (∀ s, s.sup.start = .reset → s.sup.warmContents = none →
    (∀ mv, s.sup.tripped = true → s.sup.tripCount = 1 → 6500 < mv → s.sup.rstLow = false →
      ∃ t, exec (.supplyLossClear mv) s = .next t ∧ exec (.supplySample mv) s = .next t ∧ t.coldStarted s)
    ∧ (s.sup.tripped = false → s.sup.rstLow = true →
        ∃ t, exec .rstNRelease s = .next t ∧ t.coldStarted s ∧ t.sup.rstLow = false))
  ∧ ∀ s, s.sup.start = .off → s.sup.ignHigh = false → 3 ≤ s.sup.ignCount → s.sup.tripped = false →
      s.sup.rstLow = false → s.sup.record.valid = false →
      ∃ t, exec .ignitionOn s = .next t ∧ exec (.retainedMsTick true) s = .next t ∧ t.coldStarted s
        ∧ t.sup.ignHigh = true

/-- R17, R41, R63, R74, R104, R126, R139, R160, R178, R180, R187, R192: the start is WARM exactly when the valid mark is
set, the check word matches and the counter is 200 or less. A WARM start, when the reset line is released or the supply
clears, takes up the record: SETTLING with U charged for the outage, or the cold estimate with the epoch kept where U
was 6000; the events aged; the ride settings, a code outside its enumeration replaced by its default (log 34); the
budget in force; each grant at its force, UNCONFIRMED, CARRIED, countdown 250, frozen there, RECOVERING where its
monitor stood in SOFT; HARD kept with its trigger kind, any other monitor IDLE; every line at the code of the carried
force; every port DOWN; and all that the record does not restore at its cold value, the latest estimate record among it
(log 36). What only the load sets stands at the built-in values until it completes: the working copy (log 7), the
DEFAULTED mask, the lock state and the learned friction (log 6). The sample's wheel fields stand at VALID and 0 (log
31), and the plausible-tooth count of each VALID wheel, to which R17 gives no value, at 0 (log 42). That the row of the
supply's clearing is the sample it falls at is log 2. -/
def Obligations.WarmRelease : Prop :=
  (∀ s c, s.sup.start = .reset → s.sup.warmContents = some c →
    (s.sup.tripped = false → s.sup.rstLow = true →
      ∃ t, exec .rstNRelease s = .next t ∧ t.warmStarted s c ∧ t.sup.rstLow = false)
    ∧ (∀ mv, s.sup.tripped = true → s.sup.tripCount = 1 → 6500 < mv → s.sup.rstLow = false →
        ∃ t, exec (.supplyLossClear mv) s = .next t ∧ exec (.supplySample mv) s = .next t ∧ t.warmStarted s c
          ∧ t.sup.tripped = false ∧ t.sup.tripCount = 0))
  ∧ (∀ s c, s.sup.start = .reset → s.sup.tripped = false → s.sup.rstLow = true →
    (s.sup.warmContents = some c ↔
      s.sup.record.valid = true ∧ s.sup.outage ≤ 200 ∧ s.sup.record.contents = some c
        ∧ s.sup.record.check = recordCheck c)
    ∧ ∃ t, exec .rstNRelease s = .next t ∧ (t.sup.kind = .warm ↔ s.sup.warmContents ≠ none) ∧ t.sup.start = .loading)

/-- R9, R20, R62, R73, R74, R103, R139, R163, R165, R181, R188: the load's completion ends LOADING: the working copy,
the DEFAULTED mask and the lock state are those of the flash, the cycle timer starts, SENSOR_WAIT's limit of 100,038 us
starts, the warning level and the lines' full scales are the working copy's, each line's code worked out afresh; each
wheel that has a latest period has its speed worked out again from it by the copy's circumference and teeth; after a
cold start the ride settings, the policy in use and the learned friction are S2's and the default profile's; after a
warm one the learned friction is formed from the restored events. R189, R191: the limit's expiry ends SENSOR_WAIT into
RUNNING; a completed rewrite leaves the copy, its check word and the valid mark, and the outage counter at 0. That each
row is its event at any time (log 1), and that an INVALID wheel whose count stands at or above the loaded T stays
INVALID at the load (log 35), are the model's choices. -/
def Obligations.LoadAndAfter : Prop :=
  (∀ s c, s.sup.start = .loading → c = s.cst.flash.load →
    ∃ t, exec .loadCompletion s = .next t
      ∧ t.cst = { s.cst with
          working := c, defaulted := ⟨!s.cst.flash.passes .s0, !s.cst.flash.passes .s1, !s.cst.flash.passes .s2⟩
          lock := if s.cst.flash.passes .s3 = true ∧ s.cst.flash.read (Sector.base .s3) ≠ 0 then .unlocked else .locked }
      ∧ t.sup = { s.sup with start := .sensorWait, sensorWait := some 100038, level := c.warningLevel }
      ∧ t.leu = { s.leu with cycleTimer := some 0 }
      ∧ (∀ l, t.line l = { s.line l with fullScale := c.fullScale l }.deliver (s.line l).carried)
      ∧ (s.sup.kind = .cold →
          t.gbu.settings = ⟨c.defaultProfile, none, c.defaultClass, c.defaultPolicy⟩ ∧ t.gre.policy = c.defaultPolicy
            ∧ t.flu.learned = c.muNom c.defaultProfile)
      ∧ (s.sup.kind = .warm → t.gbu = s.gbu ∧ t.gre = s.gre
          ∧ t.flu.learned = learnedFriction c.recoverCycles (c.muNom s.profile) s.flu.events)
      ∧ t.sif = { s.sif with wheels := t.sif.wheels }
      ∧ (∀ w, ((s.wheel w).period = none → t.wheel w = s.wheel w)
          ∧ ∀ n, (s.wheel w).period = some n →
            t.wheel w = { s.wheel w with speed := min 9000 (c.circumference w * 100000 / (c.teeth w * n)) })
      ∧ t.slm = s.slm ∧ t.ports = s.ports ∧ t.flu.events = s.flu.events ∧ t.gre.grants = s.gre.grants)
  ∧ ((∀ s, s.sup.start = .sensorWait →
    exec .sensorWaitExpiry s = .next (s.setSup { s.sup with start := .running, sensorWait := none }))
  ∧ (∀ s c, s.operating = true → s.sup.rewrite = some c →
      exec .retainedRewriteCompletion s = .next (s.setSup { s.sup with
        record := ⟨some c, true, ~~~ BitVec.ofNat 16 (byteSum (Config.recordBytes c))⟩, outage := 0, rewrite := none })))

end
end

