-- ==== Sys2Proof/Laws/State.lean ====
section
/-! SUPPORT. One lemma per field per update of the state, true by rfl, so that no proof unfolds a record update; and
reading after replacing one wheel, port, monitor, line or key. -/
namespace Sys2Proof.Machine

variable (s : State)

/-! ### `setSif` -/

@[simp] theorem State.setSif_sif (x : Sif) : (s.setSif x).sif = x := rfl
@[simp] theorem State.setSif_leu (x : Sif) : (s.setSif x).leu = s.leu := rfl
@[simp] theorem State.setSif_gbu (x : Sif) : (s.setSif x).gbu = s.gbu := rfl
@[simp] theorem State.setSif_flu (x : Sif) : (s.setSif x).flu = s.flu := rfl
@[simp] theorem State.setSif_gre (x : Sif) : (s.setSif x).gre = s.gre := rfl
@[simp] theorem State.setSif_slm (x : Sif) : (s.setSif x).slm = s.slm := rfl
@[simp] theorem State.setSif_lines (x : Sif) : (s.setSif x).lines = s.lines := rfl
@[simp] theorem State.setSif_ports (x : Sif) : (s.setSif x).ports = s.ports := rfl
@[simp] theorem State.setSif_cst (x : Sif) : (s.setSif x).cst = s.cst := rfl
@[simp] theorem State.setSif_sup (x : Sif) : (s.setSif x).sup = s.sup := rfl
@[simp] theorem State.setSif_freeCount (x : Sif) : (s.setSif x).freeCount = s.freeCount := rfl
@[simp] theorem State.setSif_pending (x : Sif) : (s.setSif x).pending = s.pending := rfl
@[simp] theorem State.setSif_setSif (x y : Sif) : (s.setSif x).setSif y = s.setSif y := rfl
@[simp] theorem State.setSif_self : s.setSif s.sif = s := rfl

/-! ### `setLeu` -/

@[simp] theorem State.setLeu_sif (x : Leu) : (s.setLeu x).sif = s.sif := rfl
@[simp] theorem State.setLeu_leu (x : Leu) : (s.setLeu x).leu = x := rfl
@[simp] theorem State.setLeu_gbu (x : Leu) : (s.setLeu x).gbu = s.gbu := rfl
@[simp] theorem State.setLeu_flu (x : Leu) : (s.setLeu x).flu = s.flu := rfl
@[simp] theorem State.setLeu_gre (x : Leu) : (s.setLeu x).gre = s.gre := rfl
@[simp] theorem State.setLeu_slm (x : Leu) : (s.setLeu x).slm = s.slm := rfl
@[simp] theorem State.setLeu_lines (x : Leu) : (s.setLeu x).lines = s.lines := rfl
@[simp] theorem State.setLeu_ports (x : Leu) : (s.setLeu x).ports = s.ports := rfl
@[simp] theorem State.setLeu_cst (x : Leu) : (s.setLeu x).cst = s.cst := rfl
@[simp] theorem State.setLeu_sup (x : Leu) : (s.setLeu x).sup = s.sup := rfl
@[simp] theorem State.setLeu_freeCount (x : Leu) : (s.setLeu x).freeCount = s.freeCount := rfl
@[simp] theorem State.setLeu_pending (x : Leu) : (s.setLeu x).pending = s.pending := rfl
@[simp] theorem State.setLeu_setLeu (x y : Leu) : (s.setLeu x).setLeu y = s.setLeu y := rfl
@[simp] theorem State.setLeu_self : s.setLeu s.leu = s := rfl

/-! ### `setGbu` -/

@[simp] theorem State.setGbu_sif (x : Gbu) : (s.setGbu x).sif = s.sif := rfl
@[simp] theorem State.setGbu_leu (x : Gbu) : (s.setGbu x).leu = s.leu := rfl
@[simp] theorem State.setGbu_gbu (x : Gbu) : (s.setGbu x).gbu = x := rfl
@[simp] theorem State.setGbu_flu (x : Gbu) : (s.setGbu x).flu = s.flu := rfl
@[simp] theorem State.setGbu_gre (x : Gbu) : (s.setGbu x).gre = s.gre := rfl
@[simp] theorem State.setGbu_slm (x : Gbu) : (s.setGbu x).slm = s.slm := rfl
@[simp] theorem State.setGbu_lines (x : Gbu) : (s.setGbu x).lines = s.lines := rfl
@[simp] theorem State.setGbu_ports (x : Gbu) : (s.setGbu x).ports = s.ports := rfl
@[simp] theorem State.setGbu_cst (x : Gbu) : (s.setGbu x).cst = s.cst := rfl
@[simp] theorem State.setGbu_sup (x : Gbu) : (s.setGbu x).sup = s.sup := rfl
@[simp] theorem State.setGbu_freeCount (x : Gbu) : (s.setGbu x).freeCount = s.freeCount := rfl
@[simp] theorem State.setGbu_pending (x : Gbu) : (s.setGbu x).pending = s.pending := rfl
@[simp] theorem State.setGbu_setGbu (x y : Gbu) : (s.setGbu x).setGbu y = s.setGbu y := rfl
@[simp] theorem State.setGbu_self : s.setGbu s.gbu = s := rfl

/-! ### `setFlu` -/

@[simp] theorem State.setFlu_sif (x : Flu) : (s.setFlu x).sif = s.sif := rfl
@[simp] theorem State.setFlu_leu (x : Flu) : (s.setFlu x).leu = s.leu := rfl
@[simp] theorem State.setFlu_gbu (x : Flu) : (s.setFlu x).gbu = s.gbu := rfl
@[simp] theorem State.setFlu_flu (x : Flu) : (s.setFlu x).flu = x := rfl
@[simp] theorem State.setFlu_gre (x : Flu) : (s.setFlu x).gre = s.gre := rfl
@[simp] theorem State.setFlu_slm (x : Flu) : (s.setFlu x).slm = s.slm := rfl
@[simp] theorem State.setFlu_lines (x : Flu) : (s.setFlu x).lines = s.lines := rfl
@[simp] theorem State.setFlu_ports (x : Flu) : (s.setFlu x).ports = s.ports := rfl
@[simp] theorem State.setFlu_cst (x : Flu) : (s.setFlu x).cst = s.cst := rfl
@[simp] theorem State.setFlu_sup (x : Flu) : (s.setFlu x).sup = s.sup := rfl
@[simp] theorem State.setFlu_freeCount (x : Flu) : (s.setFlu x).freeCount = s.freeCount := rfl
@[simp] theorem State.setFlu_pending (x : Flu) : (s.setFlu x).pending = s.pending := rfl
@[simp] theorem State.setFlu_setFlu (x y : Flu) : (s.setFlu x).setFlu y = s.setFlu y := rfl
@[simp] theorem State.setFlu_self : s.setFlu s.flu = s := rfl

/-! ### `setGre` -/

@[simp] theorem State.setGre_sif (x : Gre) : (s.setGre x).sif = s.sif := rfl
@[simp] theorem State.setGre_leu (x : Gre) : (s.setGre x).leu = s.leu := rfl
@[simp] theorem State.setGre_gbu (x : Gre) : (s.setGre x).gbu = s.gbu := rfl
@[simp] theorem State.setGre_flu (x : Gre) : (s.setGre x).flu = s.flu := rfl
@[simp] theorem State.setGre_gre (x : Gre) : (s.setGre x).gre = x := rfl
@[simp] theorem State.setGre_slm (x : Gre) : (s.setGre x).slm = s.slm := rfl
@[simp] theorem State.setGre_lines (x : Gre) : (s.setGre x).lines = s.lines := rfl
@[simp] theorem State.setGre_ports (x : Gre) : (s.setGre x).ports = s.ports := rfl
@[simp] theorem State.setGre_cst (x : Gre) : (s.setGre x).cst = s.cst := rfl
@[simp] theorem State.setGre_sup (x : Gre) : (s.setGre x).sup = s.sup := rfl
@[simp] theorem State.setGre_freeCount (x : Gre) : (s.setGre x).freeCount = s.freeCount := rfl
@[simp] theorem State.setGre_pending (x : Gre) : (s.setGre x).pending = s.pending := rfl
@[simp] theorem State.setGre_setGre (x y : Gre) : (s.setGre x).setGre y = s.setGre y := rfl
@[simp] theorem State.setGre_self : s.setGre s.gre = s := rfl

/-! ### `setSlm` -/

@[simp] theorem State.setSlm_sif (x : PerMonitor Monitor) : (s.setSlm x).sif = s.sif := rfl
@[simp] theorem State.setSlm_leu (x : PerMonitor Monitor) : (s.setSlm x).leu = s.leu := rfl
@[simp] theorem State.setSlm_gbu (x : PerMonitor Monitor) : (s.setSlm x).gbu = s.gbu := rfl
@[simp] theorem State.setSlm_flu (x : PerMonitor Monitor) : (s.setSlm x).flu = s.flu := rfl
@[simp] theorem State.setSlm_gre (x : PerMonitor Monitor) : (s.setSlm x).gre = s.gre := rfl
@[simp] theorem State.setSlm_slm (x : PerMonitor Monitor) : (s.setSlm x).slm = x := rfl
@[simp] theorem State.setSlm_lines (x : PerMonitor Monitor) : (s.setSlm x).lines = s.lines := rfl
@[simp] theorem State.setSlm_ports (x : PerMonitor Monitor) : (s.setSlm x).ports = s.ports := rfl
@[simp] theorem State.setSlm_cst (x : PerMonitor Monitor) : (s.setSlm x).cst = s.cst := rfl
@[simp] theorem State.setSlm_sup (x : PerMonitor Monitor) : (s.setSlm x).sup = s.sup := rfl
@[simp] theorem State.setSlm_freeCount (x : PerMonitor Monitor) : (s.setSlm x).freeCount = s.freeCount := rfl
@[simp] theorem State.setSlm_pending (x : PerMonitor Monitor) : (s.setSlm x).pending = s.pending := rfl
@[simp] theorem State.setSlm_setSlm (x y : PerMonitor Monitor) : (s.setSlm x).setSlm y = s.setSlm y := rfl
@[simp] theorem State.setSlm_self : s.setSlm s.slm = s := rfl

/-! ### `setLines` -/

@[simp] theorem State.setLines_sif (x : PerLine CeilingLine) : (s.setLines x).sif = s.sif := rfl
@[simp] theorem State.setLines_leu (x : PerLine CeilingLine) : (s.setLines x).leu = s.leu := rfl
@[simp] theorem State.setLines_gbu (x : PerLine CeilingLine) : (s.setLines x).gbu = s.gbu := rfl
@[simp] theorem State.setLines_flu (x : PerLine CeilingLine) : (s.setLines x).flu = s.flu := rfl
@[simp] theorem State.setLines_gre (x : PerLine CeilingLine) : (s.setLines x).gre = s.gre := rfl
@[simp] theorem State.setLines_slm (x : PerLine CeilingLine) : (s.setLines x).slm = s.slm := rfl
@[simp] theorem State.setLines_lines (x : PerLine CeilingLine) : (s.setLines x).lines = x := rfl
@[simp] theorem State.setLines_ports (x : PerLine CeilingLine) : (s.setLines x).ports = s.ports := rfl
@[simp] theorem State.setLines_cst (x : PerLine CeilingLine) : (s.setLines x).cst = s.cst := rfl
@[simp] theorem State.setLines_sup (x : PerLine CeilingLine) : (s.setLines x).sup = s.sup := rfl
@[simp] theorem State.setLines_freeCount (x : PerLine CeilingLine) : (s.setLines x).freeCount = s.freeCount := rfl
@[simp] theorem State.setLines_pending (x : PerLine CeilingLine) : (s.setLines x).pending = s.pending := rfl
@[simp] theorem State.setLines_setLines (x y : PerLine CeilingLine) : (s.setLines x).setLines y = s.setLines y := rfl
@[simp] theorem State.setLines_self : s.setLines s.lines = s := rfl

/-! ### `setPorts` -/

@[simp] theorem State.setPorts_sif (x : PerPort Port) : (s.setPorts x).sif = s.sif := rfl
@[simp] theorem State.setPorts_leu (x : PerPort Port) : (s.setPorts x).leu = s.leu := rfl
@[simp] theorem State.setPorts_gbu (x : PerPort Port) : (s.setPorts x).gbu = s.gbu := rfl
@[simp] theorem State.setPorts_flu (x : PerPort Port) : (s.setPorts x).flu = s.flu := rfl
@[simp] theorem State.setPorts_gre (x : PerPort Port) : (s.setPorts x).gre = s.gre := rfl
@[simp] theorem State.setPorts_slm (x : PerPort Port) : (s.setPorts x).slm = s.slm := rfl
@[simp] theorem State.setPorts_lines (x : PerPort Port) : (s.setPorts x).lines = s.lines := rfl
@[simp] theorem State.setPorts_ports (x : PerPort Port) : (s.setPorts x).ports = x := rfl
@[simp] theorem State.setPorts_cst (x : PerPort Port) : (s.setPorts x).cst = s.cst := rfl
@[simp] theorem State.setPorts_sup (x : PerPort Port) : (s.setPorts x).sup = s.sup := rfl
@[simp] theorem State.setPorts_freeCount (x : PerPort Port) : (s.setPorts x).freeCount = s.freeCount := rfl
@[simp] theorem State.setPorts_pending (x : PerPort Port) : (s.setPorts x).pending = s.pending := rfl
@[simp] theorem State.setPorts_setPorts (x y : PerPort Port) : (s.setPorts x).setPorts y = s.setPorts y := rfl
@[simp] theorem State.setPorts_self : s.setPorts s.ports = s := rfl

/-! ### `setCst` -/

@[simp] theorem State.setCst_sif (x : Cst) : (s.setCst x).sif = s.sif := rfl
@[simp] theorem State.setCst_leu (x : Cst) : (s.setCst x).leu = s.leu := rfl
@[simp] theorem State.setCst_gbu (x : Cst) : (s.setCst x).gbu = s.gbu := rfl
@[simp] theorem State.setCst_flu (x : Cst) : (s.setCst x).flu = s.flu := rfl
@[simp] theorem State.setCst_gre (x : Cst) : (s.setCst x).gre = s.gre := rfl
@[simp] theorem State.setCst_slm (x : Cst) : (s.setCst x).slm = s.slm := rfl
@[simp] theorem State.setCst_lines (x : Cst) : (s.setCst x).lines = s.lines := rfl
@[simp] theorem State.setCst_ports (x : Cst) : (s.setCst x).ports = s.ports := rfl
@[simp] theorem State.setCst_cst (x : Cst) : (s.setCst x).cst = x := rfl
@[simp] theorem State.setCst_sup (x : Cst) : (s.setCst x).sup = s.sup := rfl
@[simp] theorem State.setCst_freeCount (x : Cst) : (s.setCst x).freeCount = s.freeCount := rfl
@[simp] theorem State.setCst_pending (x : Cst) : (s.setCst x).pending = s.pending := rfl
@[simp] theorem State.setCst_setCst (x y : Cst) : (s.setCst x).setCst y = s.setCst y := rfl
@[simp] theorem State.setCst_self : s.setCst s.cst = s := rfl

/-! ### `setSup` -/

@[simp] theorem State.setSup_sif (x : Sup) : (s.setSup x).sif = s.sif := rfl
@[simp] theorem State.setSup_leu (x : Sup) : (s.setSup x).leu = s.leu := rfl
@[simp] theorem State.setSup_gbu (x : Sup) : (s.setSup x).gbu = s.gbu := rfl
@[simp] theorem State.setSup_flu (x : Sup) : (s.setSup x).flu = s.flu := rfl
@[simp] theorem State.setSup_gre (x : Sup) : (s.setSup x).gre = s.gre := rfl
@[simp] theorem State.setSup_slm (x : Sup) : (s.setSup x).slm = s.slm := rfl
@[simp] theorem State.setSup_lines (x : Sup) : (s.setSup x).lines = s.lines := rfl
@[simp] theorem State.setSup_ports (x : Sup) : (s.setSup x).ports = s.ports := rfl
@[simp] theorem State.setSup_cst (x : Sup) : (s.setSup x).cst = s.cst := rfl
@[simp] theorem State.setSup_sup (x : Sup) : (s.setSup x).sup = x := rfl
@[simp] theorem State.setSup_freeCount (x : Sup) : (s.setSup x).freeCount = s.freeCount := rfl
@[simp] theorem State.setSup_pending (x : Sup) : (s.setSup x).pending = s.pending := rfl
@[simp] theorem State.setSup_setSup (x y : Sup) : (s.setSup x).setSup y = s.setSup y := rfl
@[simp] theorem State.setSup_self : s.setSup s.sup = s := rfl

/-! ### `setFreeCount` -/

@[simp] theorem State.setFreeCount_sif (x : Nat) : (s.setFreeCount x).sif = s.sif := rfl
@[simp] theorem State.setFreeCount_leu (x : Nat) : (s.setFreeCount x).leu = s.leu := rfl
@[simp] theorem State.setFreeCount_gbu (x : Nat) : (s.setFreeCount x).gbu = s.gbu := rfl
@[simp] theorem State.setFreeCount_flu (x : Nat) : (s.setFreeCount x).flu = s.flu := rfl
@[simp] theorem State.setFreeCount_gre (x : Nat) : (s.setFreeCount x).gre = s.gre := rfl
@[simp] theorem State.setFreeCount_slm (x : Nat) : (s.setFreeCount x).slm = s.slm := rfl
@[simp] theorem State.setFreeCount_lines (x : Nat) : (s.setFreeCount x).lines = s.lines := rfl
@[simp] theorem State.setFreeCount_ports (x : Nat) : (s.setFreeCount x).ports = s.ports := rfl
@[simp] theorem State.setFreeCount_cst (x : Nat) : (s.setFreeCount x).cst = s.cst := rfl
@[simp] theorem State.setFreeCount_sup (x : Nat) : (s.setFreeCount x).sup = s.sup := rfl
@[simp] theorem State.setFreeCount_freeCount (x : Nat) : (s.setFreeCount x).freeCount = x := rfl
@[simp] theorem State.setFreeCount_pending (x : Nat) : (s.setFreeCount x).pending = s.pending := rfl
@[simp] theorem State.setFreeCount_setFreeCount (x y : Nat) : (s.setFreeCount x).setFreeCount y = s.setFreeCount y := rfl
@[simp] theorem State.setFreeCount_self : s.setFreeCount s.freeCount = s := rfl

/-! ### `setPending` -/

@[simp] theorem State.setPending_sif (x : List Instr) : (s.setPending x).sif = s.sif := rfl
@[simp] theorem State.setPending_leu (x : List Instr) : (s.setPending x).leu = s.leu := rfl
@[simp] theorem State.setPending_gbu (x : List Instr) : (s.setPending x).gbu = s.gbu := rfl
@[simp] theorem State.setPending_flu (x : List Instr) : (s.setPending x).flu = s.flu := rfl
@[simp] theorem State.setPending_gre (x : List Instr) : (s.setPending x).gre = s.gre := rfl
@[simp] theorem State.setPending_slm (x : List Instr) : (s.setPending x).slm = s.slm := rfl
@[simp] theorem State.setPending_lines (x : List Instr) : (s.setPending x).lines = s.lines := rfl
@[simp] theorem State.setPending_ports (x : List Instr) : (s.setPending x).ports = s.ports := rfl
@[simp] theorem State.setPending_cst (x : List Instr) : (s.setPending x).cst = s.cst := rfl
@[simp] theorem State.setPending_sup (x : List Instr) : (s.setPending x).sup = s.sup := rfl
@[simp] theorem State.setPending_freeCount (x : List Instr) : (s.setPending x).freeCount = s.freeCount := rfl
@[simp] theorem State.setPending_pending (x : List Instr) : (s.setPending x).pending = x := rfl
@[simp] theorem State.setPending_setPending (x y : List Instr) : (s.setPending x).setPending y = s.setPending y := rfl
@[simp] theorem State.setPending_self : s.setPending s.pending = s := rfl

/-! ### One member of a block -/

@[simp] theorem State.setPort_sif (p : PortName) (x : Port) : (s.setPort p x).sif = s.sif := rfl
@[simp] theorem State.setPort_leu (p : PortName) (x : Port) : (s.setPort p x).leu = s.leu := rfl
@[simp] theorem State.setPort_gbu (p : PortName) (x : Port) : (s.setPort p x).gbu = s.gbu := rfl
@[simp] theorem State.setPort_flu (p : PortName) (x : Port) : (s.setPort p x).flu = s.flu := rfl
@[simp] theorem State.setPort_gre (p : PortName) (x : Port) : (s.setPort p x).gre = s.gre := rfl
@[simp] theorem State.setPort_slm (p : PortName) (x : Port) : (s.setPort p x).slm = s.slm := rfl
@[simp] theorem State.setPort_lines (p : PortName) (x : Port) : (s.setPort p x).lines = s.lines := rfl
@[simp] theorem State.setPort_cst (p : PortName) (x : Port) : (s.setPort p x).cst = s.cst := rfl
@[simp] theorem State.setPort_sup (p : PortName) (x : Port) : (s.setPort p x).sup = s.sup := rfl
@[simp] theorem State.setPort_freeCount (p : PortName) (x : Port) : (s.setPort p x).freeCount = s.freeCount := rfl
@[simp] theorem State.setPort_pending (p : PortName) (x : Port) : (s.setPort p x).pending = s.pending := rfl

@[simp] theorem State.setMonitor_sif (m : MonitorName) (x : Monitor) : (s.setMonitor m x).sif = s.sif := rfl
@[simp] theorem State.setMonitor_leu (m : MonitorName) (x : Monitor) : (s.setMonitor m x).leu = s.leu := rfl
@[simp] theorem State.setMonitor_gbu (m : MonitorName) (x : Monitor) : (s.setMonitor m x).gbu = s.gbu := rfl
@[simp] theorem State.setMonitor_flu (m : MonitorName) (x : Monitor) : (s.setMonitor m x).flu = s.flu := rfl
@[simp] theorem State.setMonitor_gre (m : MonitorName) (x : Monitor) : (s.setMonitor m x).gre = s.gre := rfl
@[simp] theorem State.setMonitor_lines (m : MonitorName) (x : Monitor) : (s.setMonitor m x).lines = s.lines := rfl
@[simp] theorem State.setMonitor_ports (m : MonitorName) (x : Monitor) : (s.setMonitor m x).ports = s.ports := rfl
@[simp] theorem State.setMonitor_cst (m : MonitorName) (x : Monitor) : (s.setMonitor m x).cst = s.cst := rfl
@[simp] theorem State.setMonitor_sup (m : MonitorName) (x : Monitor) : (s.setMonitor m x).sup = s.sup := rfl
@[simp] theorem State.setMonitor_freeCount (m : MonitorName) (x : Monitor) : (s.setMonitor m x).freeCount = s.freeCount := rfl
@[simp] theorem State.setMonitor_pending (m : MonitorName) (x : Monitor) : (s.setMonitor m x).pending = s.pending := rfl

@[simp] theorem State.setLine_sif (l : LineName) (x : CeilingLine) : (s.setLine l x).sif = s.sif := rfl
@[simp] theorem State.setLine_leu (l : LineName) (x : CeilingLine) : (s.setLine l x).leu = s.leu := rfl
@[simp] theorem State.setLine_gbu (l : LineName) (x : CeilingLine) : (s.setLine l x).gbu = s.gbu := rfl
@[simp] theorem State.setLine_flu (l : LineName) (x : CeilingLine) : (s.setLine l x).flu = s.flu := rfl
@[simp] theorem State.setLine_gre (l : LineName) (x : CeilingLine) : (s.setLine l x).gre = s.gre := rfl
@[simp] theorem State.setLine_slm (l : LineName) (x : CeilingLine) : (s.setLine l x).slm = s.slm := rfl
@[simp] theorem State.setLine_ports (l : LineName) (x : CeilingLine) : (s.setLine l x).ports = s.ports := rfl
@[simp] theorem State.setLine_cst (l : LineName) (x : CeilingLine) : (s.setLine l x).cst = s.cst := rfl
@[simp] theorem State.setLine_sup (l : LineName) (x : CeilingLine) : (s.setLine l x).sup = s.sup := rfl
@[simp] theorem State.setLine_freeCount (l : LineName) (x : CeilingLine) : (s.setLine l x).freeCount = s.freeCount := rfl
@[simp] theorem State.setLine_pending (l : LineName) (x : CeilingLine) : (s.setLine l x).pending = s.pending := rfl

@[simp] theorem State.setWheel_leu (w : Wheel) (x : WheelInput) : (s.setWheel w x).leu = s.leu := rfl
@[simp] theorem State.setWheel_gbu (w : Wheel) (x : WheelInput) : (s.setWheel w x).gbu = s.gbu := rfl
@[simp] theorem State.setWheel_flu (w : Wheel) (x : WheelInput) : (s.setWheel w x).flu = s.flu := rfl
@[simp] theorem State.setWheel_gre (w : Wheel) (x : WheelInput) : (s.setWheel w x).gre = s.gre := rfl
@[simp] theorem State.setWheel_slm (w : Wheel) (x : WheelInput) : (s.setWheel w x).slm = s.slm := rfl
@[simp] theorem State.setWheel_lines (w : Wheel) (x : WheelInput) : (s.setWheel w x).lines = s.lines := rfl
@[simp] theorem State.setWheel_ports (w : Wheel) (x : WheelInput) : (s.setWheel w x).ports = s.ports := rfl
@[simp] theorem State.setWheel_cst (w : Wheel) (x : WheelInput) : (s.setWheel w x).cst = s.cst := rfl
@[simp] theorem State.setWheel_sup (w : Wheel) (x : WheelInput) : (s.setWheel w x).sup = s.sup := rfl
@[simp] theorem State.setWheel_freeCount (w : Wheel) (x : WheelInput) : (s.setWheel w x).freeCount = s.freeCount := rfl
@[simp] theorem State.setWheel_pending (w : Wheel) (x : WheelInput) : (s.setWheel w x).pending = s.pending := rfl

/-! ### Reading after replacing -/

@[simp] theorem PerWheel.get_set_same {α : Type} (t : PerWheel α) (k : Wheel) (v : α) : (t.set k v).get k = v := by
  cases k <;> rfl

theorem PerWheel.get_set_other {α : Type} (t : PerWheel α) (k j : Wheel) (v : α) (h : j ≠ k) :
    (t.set k v).get j = t.get j := by
  cases k <;> cases j <;> first | rfl | exact absurd rfl h

theorem PerWheel.get_set {α : Type} (t : PerWheel α) (k j : Wheel) (v : α) :
    (t.set k v).get j = if j = k then v else t.get j := by
  cases k <;> cases j <;> rfl

theorem PerWheel.ext_get {α : Type} {t u : PerWheel α} (h : ∀ k, t.get k = u.get k) : t = u := by
  cases t; cases u; simp only [PerWheel.mk.injEq]
  exact ⟨h .front, h .rear⟩

@[simp] theorem PerPort.get_set_same {α : Type} (t : PerPort α) (k : PortName) (v : α) : (t.set k v).get k = v := by
  cases k <;> rfl

theorem PerPort.get_set_other {α : Type} (t : PerPort α) (k j : PortName) (v : α) (h : j ≠ k) :
    (t.set k v).get j = t.get j := by
  cases k <;> cases j <;> first | rfl | exact absurd rfl h

theorem PerPort.get_set {α : Type} (t : PerPort α) (k j : PortName) (v : α) :
    (t.set k v).get j = if j = k then v else t.get j := by
  cases k <;> cases j <;> rfl

theorem PerPort.ext_get {α : Type} {t u : PerPort α} (h : ∀ k, t.get k = u.get k) : t = u := by
  cases t; cases u; simp only [PerPort.mk.injEq]
  exact ⟨h .e, h .b, h .c⟩

@[simp] theorem PerMonitor.get_set_same {α : Type} (t : PerMonitor α) (k : MonitorName) (v : α) : (t.set k v).get k = v := by
  cases k <;> rfl

theorem PerMonitor.get_set_other {α : Type} (t : PerMonitor α) (k j : MonitorName) (v : α) (h : j ≠ k) :
    (t.set k v).get j = t.get j := by
  cases k <;> cases j <;> first | rfl | exact absurd rfl h

theorem PerMonitor.get_set {α : Type} (t : PerMonitor α) (k j : MonitorName) (v : α) :
    (t.set k v).get j = if j = k then v else t.get j := by
  cases k <;> cases j <;> rfl

theorem PerMonitor.ext_get {α : Type} {t u : PerMonitor α} (h : ∀ k, t.get k = u.get k) : t = u := by
  cases t; cases u; simp only [PerMonitor.mk.injEq]
  exact ⟨h .rearSpin, h .rearLock, h .frontLock⟩

@[simp] theorem PerLine.get_set_same {α : Type} (t : PerLine α) (k : LineName) (v : α) : (t.set k v).get k = v := by
  cases k <;> rfl

theorem PerLine.get_set_other {α : Type} (t : PerLine α) (k j : LineName) (v : α) (h : j ≠ k) :
    (t.set k v).get j = t.get j := by
  cases k <;> cases j <;> first | rfl | exact absurd rfl h

theorem PerLine.get_set {α : Type} (t : PerLine α) (k j : LineName) (v : α) :
    (t.set k v).get j = if j = k then v else t.get j := by
  cases k <;> cases j <;> rfl

theorem PerLine.ext_get {α : Type} {t u : PerLine α} (h : ∀ k, t.get k = u.get k) : t = u := by
  cases t; cases u; simp only [PerLine.mk.injEq]
  exact ⟨h .cld, h .clf, h .clr⟩

@[simp] theorem PerKey.get_set_same {α : Type} (t : PerKey α) (k : GrantKey) (v : α) : (t.set k v).get k = v := by
  cases k <;> rfl

theorem PerKey.get_set_other {α : Type} (t : PerKey α) (k j : GrantKey) (v : α) (h : j ≠ k) :
    (t.set k v).get j = t.get j := by
  cases k <;> cases j <;> first | rfl | exact absurd rfl h

theorem PerKey.get_set {α : Type} (t : PerKey α) (k j : GrantKey) (v : α) :
    (t.set k v).get j = if j = k then v else t.get j := by
  cases k <;> cases j <;> rfl

theorem PerKey.ext_get {α : Type} {t u : PerKey α} (h : ∀ k, t.get k = u.get k) : t = u := by
  cases t; cases u; simp only [PerKey.mk.injEq]
  exact ⟨h .eRearDrive, h .eRearBrake, h .bFrontBrake, h .bRearBrake⟩

@[simp] theorem PerWheel.get_map {α β : Type} (f : α → β) (t : PerWheel α) (k : Wheel) : (t.map f).get k = f (t.get k) := by
  cases k <;> rfl

@[simp] theorem PerPort.get_map {α β : Type} (f : α → β) (t : PerPort α) (k : PortName) : (t.map f).get k = f (t.get k) := by
  cases k <;> rfl

@[simp] theorem PerMonitor.get_map {α β : Type} (f : α → β) (t : PerMonitor α) (k : MonitorName) : (t.map f).get k = f (t.get k) := by
  cases k <;> rfl

@[simp] theorem PerLine.get_map {α β : Type} (f : α → β) (t : PerLine α) (k : LineName) : (t.map f).get k = f (t.get k) := by
  cases k <;> rfl

@[simp] theorem State.port_setPort_same (p : PortName) (x : Port) : (s.setPort p x).port p = x := by
  cases p <;> rfl

theorem State.port_setPort_other (p p' : PortName) (x : Port) (h : p' ≠ p) : (s.setPort p x).port p' = s.port p' := by
  cases p <;> cases p' <;> first | rfl | exact absurd rfl h

@[simp] theorem State.monitor_setMonitor_same (m : MonitorName) (x : Monitor) : (s.setMonitor m x).monitor m = x := by
  cases m <;> rfl

theorem State.monitor_setMonitor_other (m m' : MonitorName) (x : Monitor) (h : m' ≠ m) : (s.setMonitor m x).monitor m' = s.monitor m' := by
  cases m <;> cases m' <;> first | rfl | exact absurd rfl h

@[simp] theorem State.line_setLine_same (l : LineName) (x : CeilingLine) : (s.setLine l x).line l = x := by
  cases l <;> rfl

theorem State.line_setLine_other (l l' : LineName) (x : CeilingLine) (h : l' ≠ l) : (s.setLine l x).line l' = s.line l' := by
  cases l <;> cases l' <;> first | rfl | exact absurd rfl h

@[simp] theorem State.wheel_setWheel_same (w : Wheel) (x : WheelInput) : (s.setWheel w x).wheel w = x := by
  cases w <;> rfl

theorem State.wheel_setWheel_other (w w' : Wheel) (x : WheelInput) (h : w' ≠ w) : (s.setWheel w x).wheel w' = s.wheel w' := by
  cases w <;> cases w' <;> first | rfl | exact absurd rfl h

end Sys2Proof.Machine
end

