-- ==== Sys2Proof/Laws/Grants.lean ====
section
/-! SUPPORT. What the shared writes to the grant table can do, once and for all: deliveries to the lines, one key
written, existing grants changed. Every lemma of the form `op_field` says that the operation leaves that part alone. -/
namespace Sys2Proof.Machine

/-! ### Deliveries -/

@[simp] theorem State.deliver_sif (s : State) (k : GrantKey) (v : Option Nat) : (s.deliver k v).sif = s.sif := by
  unfold State.deliver; split <;> rfl
@[simp] theorem State.deliver_leu (s : State) (k : GrantKey) (v : Option Nat) : (s.deliver k v).leu = s.leu := by
  unfold State.deliver; split <;> rfl
@[simp] theorem State.deliver_gbu (s : State) (k : GrantKey) (v : Option Nat) : (s.deliver k v).gbu = s.gbu := by
  unfold State.deliver; split <;> rfl
@[simp] theorem State.deliver_slm (s : State) (k : GrantKey) (v : Option Nat) : (s.deliver k v).slm = s.slm := by
  unfold State.deliver; split <;> rfl
@[simp] theorem State.deliver_ports (s : State) (k : GrantKey) (v : Option Nat) : (s.deliver k v).ports = s.ports := by
  unfold State.deliver; split <;> rfl
@[simp] theorem State.deliver_cst (s : State) (k : GrantKey) (v : Option Nat) : (s.deliver k v).cst = s.cst := by
  unfold State.deliver; split <;> rfl
@[simp] theorem State.deliver_sup (s : State) (k : GrantKey) (v : Option Nat) : (s.deliver k v).sup = s.sup := by
  unfold State.deliver; split <;> rfl
@[simp] theorem State.deliver_freeCount (s : State) (k : GrantKey) (v : Option Nat) : (s.deliver k v).freeCount = s.freeCount := by
  unfold State.deliver; split <;> rfl
@[simp] theorem State.deliver_pending (s : State) (k : GrantKey) (v : Option Nat) : (s.deliver k v).pending = s.pending := by
  unfold State.deliver; split <;> rfl
@[simp] theorem State.deliver_flu (s : State) (k : GrantKey) (v : Option Nat) : (s.deliver k v).flu = s.flu := by
  unfold State.deliver; split <;> rfl
@[simp] theorem State.deliver_gre (s : State) (k : GrantKey) (v : Option Nat) : (s.deliver k v).gre = s.gre := by
  unfold State.deliver; split <;> rfl

/-- A delivery reaches the key's line and no other. -/
theorem State.deliver_line (s : State) (k : GrantKey) (v : Option Nat) (l : LineName) :
    (s.deliver k v).line l = if k.line = some l then (s.line l).deliver v else s.line l := by
  cases k <;> cases l <;> rfl

/-- What a delivery can leave in a line: the target code of the new force as preset; that code at once, or the same
code as before when the target is no lower; a level that goes low or stays. -/
theorem CeilingLine.deliver_spec (l : CeilingLine) (v : Option Nat) :
    (l.deliver v).carried = v ∧ (l.deliver v).preset = targetCode l.fullScale v
      ∧ (l.deliver v).current = min l.current (targetCode l.fullScale v)
      ∧ (l.deliver v).timer = l.timer ∧ (l.deliver v).fullScale = l.fullScale
      ∧ ((l.deliver v).high = true → l.high = true) := by
  unfold CeilingLine.deliver
  split
  · rename_i h
    refine ⟨rfl, rfl, (Nat.min_eq_right (Nat.le_of_lt h)).symm, rfl, rfl, ?_⟩
    simp only [Bool.and_eq_true]
    exact fun h => h.1
  · rename_i h
    exact ⟨rfl, rfl, (Nat.min_eq_left (Nat.le_of_not_lt h)).symm, rfl, rfl, id⟩

/-! ### One key written -/

@[simp] theorem State.writeGrant_sif (s : State) (k : GrantKey) (g : Option Grant) :
    (s.writeGrant k g).sif = s.sif := by
  unfold State.writeGrant; simp only; split <;> split <;> simp
@[simp] theorem State.writeGrant_leu (s : State) (k : GrantKey) (g : Option Grant) :
    (s.writeGrant k g).leu = s.leu := by
  unfold State.writeGrant; simp only; split <;> split <;> simp
@[simp] theorem State.writeGrant_gbu (s : State) (k : GrantKey) (g : Option Grant) :
    (s.writeGrant k g).gbu = s.gbu := by
  unfold State.writeGrant; simp only; split <;> split <;> simp
@[simp] theorem State.writeGrant_slm (s : State) (k : GrantKey) (g : Option Grant) :
    (s.writeGrant k g).slm = s.slm := by
  unfold State.writeGrant; simp only; split <;> split <;> simp
@[simp] theorem State.writeGrant_ports (s : State) (k : GrantKey) (g : Option Grant) :
    (s.writeGrant k g).ports = s.ports := by
  unfold State.writeGrant; simp only; split <;> split <;> simp
@[simp] theorem State.writeGrant_cst (s : State) (k : GrantKey) (g : Option Grant) :
    (s.writeGrant k g).cst = s.cst := by
  unfold State.writeGrant; simp only; split <;> split <;> simp
@[simp] theorem State.writeGrant_sup (s : State) (k : GrantKey) (g : Option Grant) :
    (s.writeGrant k g).sup = s.sup := by
  unfold State.writeGrant; simp only; split <;> split <;> simp
@[simp] theorem State.writeGrant_freeCount (s : State) (k : GrantKey) (g : Option Grant) :
    (s.writeGrant k g).freeCount = s.freeCount := by
  unfold State.writeGrant; simp only; split <;> split <;> simp
@[simp] theorem State.writeGrant_pending (s : State) (k : GrantKey) (g : Option Grant) :
    (s.writeGrant k g).pending = s.pending := by
  unfold State.writeGrant; simp only; split <;> split <;> simp

/-- The table after a write: the key's new grant, every other as it was; the rest of the engine is unchanged. -/
@[simp] theorem State.writeGrant_gre (s : State) (k : GrantKey) (g : Option Grant) :
    (s.writeGrant k g).gre = { s.gre with grants := s.gre.grants.set k g } := by
  unfold State.writeGrant; simp only; split <;> split <;> simp

theorem State.writeGrant_grant (s : State) (k j : GrantKey) (g : Option Grant) :
    (s.writeGrant k g).grant j = if j = k then g else s.grant j := by
  simp [State.grant, PerKey.get_set]

/-- The friction learning unit after a write: a removal zeroes the key's report count, nothing else changes. -/
@[simp] theorem State.writeGrant_flu (s : State) (k : GrantKey) (g : Option Grant) :
    (s.writeGrant k g).flu
      = if g.isNone then { s.flu with reports := s.flu.reports.set k 0 } else s.flu := by
  unfold State.writeGrant; simp only; split <;> split <;> simp

/-- The lines after a write: a changed granted force is delivered to the key's line. -/
theorem State.writeGrant_line (s : State) (k : GrantKey) (g : Option Grant) (l : LineName) :
    (s.writeGrant k g).line l
      = if s.grantedForce k ≠ g.map Grant.granted ∧ k.line = some l then (s.line l).deliver (g.map Grant.granted)
        else s.line l := by
  unfold State.writeGrant
  by_cases h : s.grantedForce k = g.map Grant.granted
  · by_cases hg : g.isNone <;> simp [h, hg, State.line]
  · by_cases hg : g.isNone
    · simp only [h, hg, if_true, if_false, State.deliver_line, ne_eq, not_false_eq_true, true_and]; rfl
    · simp only [h, hg, if_false, State.deliver_line, ne_eq, not_false_eq_true, true_and]; rfl

theorem State.writeGrant_grantedForce (s : State) (k j : GrantKey) (g : Option Grant) :
    (s.writeGrant k g).grantedForce j = if j = k then g.map Grant.granted else s.grantedForce j := by
  unfold State.grantedForce
  rw [State.writeGrant_grant]
  split <;> rfl

/-! ### Existing grants changed -/

@[simp] theorem State.changeGrant_sif (s : State) (k : GrantKey) (f : Grant → Grant) :
    (s.changeGrant k f).sif = s.sif := by
  unfold State.changeGrant; split <;> simp
@[simp] theorem State.changeGrant_leu (s : State) (k : GrantKey) (f : Grant → Grant) :
    (s.changeGrant k f).leu = s.leu := by
  unfold State.changeGrant; split <;> simp
@[simp] theorem State.changeGrant_gbu (s : State) (k : GrantKey) (f : Grant → Grant) :
    (s.changeGrant k f).gbu = s.gbu := by
  unfold State.changeGrant; split <;> simp
@[simp] theorem State.changeGrant_slm (s : State) (k : GrantKey) (f : Grant → Grant) :
    (s.changeGrant k f).slm = s.slm := by
  unfold State.changeGrant; split <;> simp
@[simp] theorem State.changeGrant_ports (s : State) (k : GrantKey) (f : Grant → Grant) :
    (s.changeGrant k f).ports = s.ports := by
  unfold State.changeGrant; split <;> simp
@[simp] theorem State.changeGrant_cst (s : State) (k : GrantKey) (f : Grant → Grant) :
    (s.changeGrant k f).cst = s.cst := by
  unfold State.changeGrant; split <;> simp
@[simp] theorem State.changeGrant_sup (s : State) (k : GrantKey) (f : Grant → Grant) :
    (s.changeGrant k f).sup = s.sup := by
  unfold State.changeGrant; split <;> simp
@[simp] theorem State.changeGrant_freeCount (s : State) (k : GrantKey) (f : Grant → Grant) :
    (s.changeGrant k f).freeCount = s.freeCount := by
  unfold State.changeGrant; split <;> simp
@[simp] theorem State.changeGrant_pending (s : State) (k : GrantKey) (f : Grant → Grant) :
    (s.changeGrant k f).pending = s.pending := by
  unfold State.changeGrant; split <;> simp
@[simp] theorem State.changeGrant_flu (s : State) (k : GrantKey) (f : Grant → Grant) :
    (s.changeGrant k f).flu = s.flu := by
  unfold State.changeGrant; split <;> simp

theorem State.changeGrant_grant (s : State) (k j : GrantKey) (f : Grant → Grant) :
    (s.changeGrant k f).grant j = if j = k then (s.grant k).map f else s.grant j := by
  unfold State.changeGrant
  split
  · rename_i h
    split
    · rename_i hj; subst hj; rw [h]; rfl
    · rfl
  · rename_i g h
    rw [State.writeGrant_grant]
    simp [h]

/-- The engine after an existing grant changed: only the table moves. -/
theorem State.changeGrant_gre (s : State) (k : GrantKey) (f : Grant → Grant) :
    (s.changeGrant k f).gre = { s.gre with grants := (s.changeGrant k f).gre.grants } := by
  unfold State.changeGrant; split <;> simp

@[simp] theorem State.changeGrant_budget (s : State) (k : GrantKey) (f : Grant → Grant) :
    (s.changeGrant k f).gre.budget = s.gre.budget := by rw [State.changeGrant_gre]
@[simp] theorem State.changeGrant_engine (s : State) (k : GrantKey) (f : Grant → Grant) :
    (s.changeGrant k f).gre.engine = s.gre.engine := by rw [State.changeGrant_gre]

@[simp] theorem State.changeGrants_nil (s : State) (f : GrantKey → Grant → Grant) : s.changeGrants [] f = s := rfl
theorem State.changeGrants_cons (s : State) (k : GrantKey) (ks : List GrantKey) (f : GrantKey → Grant → Grant) :
    s.changeGrants (k :: ks) f = (s.changeGrant k (f k)).changeGrants ks f := rfl

@[simp] theorem State.changeGrants_sif (s : State) (ks : List GrantKey) (f : GrantKey → Grant → Grant) :
    (s.changeGrants ks f).sif = s.sif := by
  induction ks generalizing s with
  | nil => rfl
  | cons k ks ih => rw [State.changeGrants_cons, ih, State.changeGrant_sif]
@[simp] theorem State.changeGrants_leu (s : State) (ks : List GrantKey) (f : GrantKey → Grant → Grant) :
    (s.changeGrants ks f).leu = s.leu := by
  induction ks generalizing s with
  | nil => rfl
  | cons k ks ih => rw [State.changeGrants_cons, ih, State.changeGrant_leu]
@[simp] theorem State.changeGrants_gbu (s : State) (ks : List GrantKey) (f : GrantKey → Grant → Grant) :
    (s.changeGrants ks f).gbu = s.gbu := by
  induction ks generalizing s with
  | nil => rfl
  | cons k ks ih => rw [State.changeGrants_cons, ih, State.changeGrant_gbu]
@[simp] theorem State.changeGrants_slm (s : State) (ks : List GrantKey) (f : GrantKey → Grant → Grant) :
    (s.changeGrants ks f).slm = s.slm := by
  induction ks generalizing s with
  | nil => rfl
  | cons k ks ih => rw [State.changeGrants_cons, ih, State.changeGrant_slm]
@[simp] theorem State.changeGrants_ports (s : State) (ks : List GrantKey) (f : GrantKey → Grant → Grant) :
    (s.changeGrants ks f).ports = s.ports := by
  induction ks generalizing s with
  | nil => rfl
  | cons k ks ih => rw [State.changeGrants_cons, ih, State.changeGrant_ports]
@[simp] theorem State.changeGrants_cst (s : State) (ks : List GrantKey) (f : GrantKey → Grant → Grant) :
    (s.changeGrants ks f).cst = s.cst := by
  induction ks generalizing s with
  | nil => rfl
  | cons k ks ih => rw [State.changeGrants_cons, ih, State.changeGrant_cst]
@[simp] theorem State.changeGrants_sup (s : State) (ks : List GrantKey) (f : GrantKey → Grant → Grant) :
    (s.changeGrants ks f).sup = s.sup := by
  induction ks generalizing s with
  | nil => rfl
  | cons k ks ih => rw [State.changeGrants_cons, ih, State.changeGrant_sup]
@[simp] theorem State.changeGrants_freeCount (s : State) (ks : List GrantKey) (f : GrantKey → Grant → Grant) :
    (s.changeGrants ks f).freeCount = s.freeCount := by
  induction ks generalizing s with
  | nil => rfl
  | cons k ks ih => rw [State.changeGrants_cons, ih, State.changeGrant_freeCount]
@[simp] theorem State.changeGrants_pending (s : State) (ks : List GrantKey) (f : GrantKey → Grant → Grant) :
    (s.changeGrants ks f).pending = s.pending := by
  induction ks generalizing s with
  | nil => rfl
  | cons k ks ih => rw [State.changeGrants_cons, ih, State.changeGrant_pending]
@[simp] theorem State.changeGrants_flu (s : State) (ks : List GrantKey) (f : GrantKey → Grant → Grant) :
    (s.changeGrants ks f).flu = s.flu := by
  induction ks generalizing s with
  | nil => rfl
  | cons k ks ih => rw [State.changeGrants_cons, ih, State.changeGrant_flu]

/-- The engine after existing grants changed: only the table moves. -/
theorem State.changeGrants_gre (s : State) (ks : List GrantKey) (f : GrantKey → Grant → Grant) :
    (s.changeGrants ks f).gre = { s.gre with grants := (s.changeGrants ks f).gre.grants } := by
  induction ks generalizing s with
  | nil => rfl
  | cons k ks ih => rw [State.changeGrants_cons, ih, State.changeGrant_gre]

/-- The table after existing grants changed: each named key's grant changed once, every other as it was. -/
theorem State.changeGrants_grant (s : State) (ks : List GrantKey) (f : GrantKey → Grant → Grant) (h : ks.Nodup)
    (j : GrantKey) : (s.changeGrants ks f).grant j = if j ∈ ks then (s.grant j).map (f j) else s.grant j := by
  induction ks generalizing s with
  | nil => simp
  | cons k ks ih =>
    rw [State.changeGrants_cons, ih _ h.of_cons]
    have hk : k ∉ ks := (List.nodup_cons.mp h).1
    by_cases hj : j = k
    · subst hj; simp [hk, State.changeGrant_grant]
    · simp [hj, State.changeGrant_grant]

/-- Existing grants changed without a change of any granted force reach no line (R102). -/
theorem State.changeGrant_lines (s : State) (k : GrantKey) (f : Grant → Grant)
    (h : ∀ g, s.grant k = some g → (f g).granted = g.granted) : (s.changeGrant k f).lines = s.lines := by
  unfold State.changeGrant
  split
  · rfl
  · rename_i g hg
    have : s.grantedForce k = (some (f g)).map Grant.granted := by simp [State.grantedForce, hg, h g hg]
    unfold State.writeGrant
    simp [this]

theorem State.changeGrants_lines (s : State) (ks : List GrantKey) (f : GrantKey → Grant → Grant)
    (h : ∀ k g, (f k g).granted = g.granted) : (s.changeGrants ks f).lines = s.lines := by
  induction ks generalizing s with
  | nil => rfl
  | cons k ks ih => rw [State.changeGrants_cons, ih, State.changeGrant_lines _ _ _ fun g _ => h k g]

theorem monitorKeys_nodup (m : MonitorName) : m.keys.Nodup := by cases m <;> decide
theorem portKeys_nodup (p : PortName) : p.keys.Nodup := by cases p <;> decide
theorem allKeys_nodup : allKeys.Nodup := by decide
theorem mem_allKeys (k : GrantKey) : k ∈ allKeys := by cases k <;> decide

/-- The keys a monitor affects are those it concerns (R76, R107). -/
theorem mem_monitorKeys (m : MonitorName) (k : GrantKey) : k ∈ m.keys ↔ k.monitor = m := by
  cases m <;> cases k <;> decide

end Sys2Proof.Machine
end

