-- ==== Sys2Proof/Laws/Clamps.lean ====
section
/-! SUPPORT. What triggers, clamp ends, captures and the FLU's taking of a trigger can do. -/
namespace Sys2Proof.Machine

/-! ### A trigger at the friction learning unit -/

@[simp] theorem State.takeTrigger_sif (s : State) (m : MonitorName) (v : Nat) (e : Word16) :
    (s.takeTrigger m v e).sif = s.sif := by
  unfold State.takeTrigger; split
  · rfl
  · split <;> rfl
@[simp] theorem State.takeTrigger_leu (s : State) (m : MonitorName) (v : Nat) (e : Word16) :
    (s.takeTrigger m v e).leu = s.leu := by
  unfold State.takeTrigger; split
  · rfl
  · split <;> rfl
@[simp] theorem State.takeTrigger_gbu (s : State) (m : MonitorName) (v : Nat) (e : Word16) :
    (s.takeTrigger m v e).gbu = s.gbu := by
  unfold State.takeTrigger; split
  · rfl
  · split <;> rfl
@[simp] theorem State.takeTrigger_gre (s : State) (m : MonitorName) (v : Nat) (e : Word16) :
    (s.takeTrigger m v e).gre = s.gre := by
  unfold State.takeTrigger; split
  · rfl
  · split <;> rfl
@[simp] theorem State.takeTrigger_slm (s : State) (m : MonitorName) (v : Nat) (e : Word16) :
    (s.takeTrigger m v e).slm = s.slm := by
  unfold State.takeTrigger; split
  · rfl
  · split <;> rfl
@[simp] theorem State.takeTrigger_lines (s : State) (m : MonitorName) (v : Nat) (e : Word16) :
    (s.takeTrigger m v e).lines = s.lines := by
  unfold State.takeTrigger; split
  · rfl
  · split <;> rfl
@[simp] theorem State.takeTrigger_ports (s : State) (m : MonitorName) (v : Nat) (e : Word16) :
    (s.takeTrigger m v e).ports = s.ports := by
  unfold State.takeTrigger; split
  · rfl
  · split <;> rfl
@[simp] theorem State.takeTrigger_cst (s : State) (m : MonitorName) (v : Nat) (e : Word16) :
    (s.takeTrigger m v e).cst = s.cst := by
  unfold State.takeTrigger; split
  · rfl
  · split <;> rfl
@[simp] theorem State.takeTrigger_sup (s : State) (m : MonitorName) (v : Nat) (e : Word16) :
    (s.takeTrigger m v e).sup = s.sup := by
  unfold State.takeTrigger; split
  · rfl
  · split <;> rfl
@[simp] theorem State.takeTrigger_freeCount (s : State) (m : MonitorName) (v : Nat) (e : Word16) :
    (s.takeTrigger m v e).freeCount = s.freeCount := by
  unfold State.takeTrigger; split
  · rfl
  · split <;> rfl
@[simp] theorem State.takeTrigger_pending (s : State) (m : MonitorName) (v : Nat) (e : Word16) :
    (s.takeTrigger m v e).pending = s.pending := by
  unfold State.takeTrigger; split
  · rfl
  · split <;> rfl

/-- A taken trigger leaves the report counts and the learned friction alone (R67, R68). -/
theorem State.takeTrigger_flu (s : State) (m : MonitorName) (v : Nat) (e : Word16) :
    (s.takeTrigger m v e).flu.reports = s.flu.reports ∧ (s.takeTrigger m v e).flu.learned = s.flu.learned := by
  unfold State.takeTrigger; split
  · exact ⟨rfl, rfl⟩
  · split <;> exact ⟨rfl, rfl⟩

/-! ### Clamps -/

@[simp] theorem State.clampGrants_sif (s : State) (m : MonitorName) (x : Monitor) (lim : GrantKey → Nat) :
    (s.clampGrants m x lim).sif = s.sif := by
  unfold State.clampGrants; simp
@[simp] theorem State.clampGrants_leu (s : State) (m : MonitorName) (x : Monitor) (lim : GrantKey → Nat) :
    (s.clampGrants m x lim).leu = s.leu := by
  unfold State.clampGrants; simp
@[simp] theorem State.clampGrants_gbu (s : State) (m : MonitorName) (x : Monitor) (lim : GrantKey → Nat) :
    (s.clampGrants m x lim).gbu = s.gbu := by
  unfold State.clampGrants; simp
@[simp] theorem State.clampGrants_ports (s : State) (m : MonitorName) (x : Monitor) (lim : GrantKey → Nat) :
    (s.clampGrants m x lim).ports = s.ports := by
  unfold State.clampGrants; simp
@[simp] theorem State.clampGrants_cst (s : State) (m : MonitorName) (x : Monitor) (lim : GrantKey → Nat) :
    (s.clampGrants m x lim).cst = s.cst := by
  unfold State.clampGrants; simp
@[simp] theorem State.clampGrants_sup (s : State) (m : MonitorName) (x : Monitor) (lim : GrantKey → Nat) :
    (s.clampGrants m x lim).sup = s.sup := by
  unfold State.clampGrants; simp
@[simp] theorem State.clampGrants_freeCount (s : State) (m : MonitorName) (x : Monitor) (lim : GrantKey → Nat) :
    (s.clampGrants m x lim).freeCount = s.freeCount := by
  unfold State.clampGrants; simp
@[simp] theorem State.clampGrants_pending (s : State) (m : MonitorName) (x : Monitor) (lim : GrantKey → Nat) :
    (s.clampGrants m x lim).pending = s.pending := by
  unfold State.clampGrants; simp
@[simp] theorem State.clampGrants_flu (s : State) (m : MonitorName) (x : Monitor) (lim : GrantKey → Nat) :
    (s.clampGrants m x lim).flu = s.flu := by
  unfold State.clampGrants; simp
@[simp] theorem State.clampGrants_slm (s : State) (m : MonitorName) (x : Monitor) (lim : GrantKey → Nat) :
    (s.clampGrants m x lim).slm = s.slm.set m x := by
  unfold State.clampGrants; simp [State.setMonitor]
theorem State.clampGrants_gre (s : State) (m : MonitorName) (x : Monitor) (lim : GrantKey → Nat) :
    (s.clampGrants m x lim).gre = { s.gre with grants := (s.clampGrants m x lim).gre.grants } := by
  unfold State.clampGrants; rw [State.changeGrants_gre]; simp

@[simp] theorem State.endClamp_sif (s : State) (m : MonitorName) (x : Monitor) :
    (s.endClamp m x).sif = s.sif := by
  unfold State.endClamp; simp
@[simp] theorem State.endClamp_leu (s : State) (m : MonitorName) (x : Monitor) :
    (s.endClamp m x).leu = s.leu := by
  unfold State.endClamp; simp
@[simp] theorem State.endClamp_gbu (s : State) (m : MonitorName) (x : Monitor) :
    (s.endClamp m x).gbu = s.gbu := by
  unfold State.endClamp; simp
@[simp] theorem State.endClamp_ports (s : State) (m : MonitorName) (x : Monitor) :
    (s.endClamp m x).ports = s.ports := by
  unfold State.endClamp; simp
@[simp] theorem State.endClamp_cst (s : State) (m : MonitorName) (x : Monitor) :
    (s.endClamp m x).cst = s.cst := by
  unfold State.endClamp; simp
@[simp] theorem State.endClamp_sup (s : State) (m : MonitorName) (x : Monitor) :
    (s.endClamp m x).sup = s.sup := by
  unfold State.endClamp; simp
@[simp] theorem State.endClamp_freeCount (s : State) (m : MonitorName) (x : Monitor) :
    (s.endClamp m x).freeCount = s.freeCount := by
  unfold State.endClamp; simp
@[simp] theorem State.endClamp_pending (s : State) (m : MonitorName) (x : Monitor) :
    (s.endClamp m x).pending = s.pending := by
  unfold State.endClamp; simp
@[simp] theorem State.endClamp_flu (s : State) (m : MonitorName) (x : Monitor) :
    (s.endClamp m x).flu = s.flu := by
  unfold State.endClamp; simp
@[simp] theorem State.endClamp_slm (s : State) (m : MonitorName) (x : Monitor) :
    (s.endClamp m x).slm = s.slm.set m x := by
  unfold State.endClamp; simp [State.setMonitor]
theorem State.endClamp_gre (s : State) (m : MonitorName) (x : Monitor) :
    (s.endClamp m x).gre = { s.gre with grants := (s.endClamp m x).gre.grants } := by
  unfold State.endClamp; rw [State.changeGrants_gre]; simp

theorem State.grant_setMonitor (s : State) (m : MonitorName) (x : Monitor) (k : GrantKey) :
    (s.setMonitor m x).grant k = s.grant k := rfl

/-- The table after a clamp: each affected grant cut to its limit, its state derived from the monitor's new record;
every other grant as it was (R98). -/
theorem State.clampGrants_grant (s : State) (m : MonitorName) (x : Monitor) (lim : GrantKey → Nat) (k : GrantKey) :
    (s.clampGrants m x lim).grant k
      = if k.monitor = m then (s.grant k).map fun g => (g.lower (lim k)).rederive x k else s.grant k := by
  unfold State.clampGrants
  rw [State.changeGrants_grant _ _ _ (monitorKeys_nodup m)]
  simp [mem_monitorKeys, State.grant_setMonitor]

/-- The table after a clamp end: each affected grant RECOVERING, its state derived afresh, its forces as they were
(R99). -/
theorem State.endClamp_grant (s : State) (m : MonitorName) (x : Monitor) (k : GrantKey) :
    (s.endClamp m x).grant k
      = if k.monitor = m then (s.grant k).map fun g => { g with recovering := true }.rederive x k
        else s.grant k := by
  unfold State.endClamp
  rw [State.changeGrants_grant _ _ _ (monitorKeys_nodup m)]
  simp [mem_monitorKeys, State.grant_setMonitor]

/-- A clamp end reaches no line (R99, R135). -/
@[simp] theorem State.endClamp_lines (s : State) (m : MonitorName) (x : Monitor) : (s.endClamp m x).lines = s.lines := by
  unfold State.endClamp
  exact State.changeGrants_lines _ _ _ fun _ _ => rfl

/-- A grant cut to a limit: within the limit and within its force before; what else it holds is kept (R78, R98). -/
theorem Grant.lower_spec (g : Grant) (v : Nat) :
    (g.lower v).granted = min g.granted v ∧ (g.lower v).rampBase = min g.rampBase (min g.granted v)
      ∧ (g.lower v).requested = g.requested ∧ (g.lower v).recovering = g.recovering
      ∧ (g.lower v).confirmation = g.confirmation ∧ (g.lower v).applied = g.applied
      ∧ (g.lower v).overuse = g.overuse := ⟨rfl, rfl, rfl, rfl, rfl, rfl, rfl⟩

/-- A state derived afresh changes nothing else (R77). -/
theorem Grant.rederive_spec (g : Grant) (m : Monitor) (k : GrantKey) :
    (g.rederive m k).granted = g.granted ∧ (g.rederive m k).rampBase = g.rampBase
      ∧ (g.rederive m k).requested = g.requested ∧ (g.rederive m k).recovering = g.recovering
      ∧ (g.rederive m k).confirmation = g.confirmation ∧ (g.rederive m k).applied = g.applied
      ∧ (g.rederive m k).overuse = g.overuse
      ∧ (g.rederive m k).state = deriveState m k g.requested g.granted := ⟨rfl, rfl, rfl, rfl, rfl, rfl, rfl, rfl⟩

/-! ### Triggers into SOFT and HARD -/

@[simp] theorem State.triggerSoft_sif (s : State) (m : MonitorName) (e : Word16) : (s.triggerSoft m e).sif = s.sif := by
  unfold State.triggerSoft; simp
@[simp] theorem State.triggerSoft_leu (s : State) (m : MonitorName) (e : Word16) : (s.triggerSoft m e).leu = s.leu := by
  unfold State.triggerSoft; simp
@[simp] theorem State.triggerSoft_gbu (s : State) (m : MonitorName) (e : Word16) : (s.triggerSoft m e).gbu = s.gbu := by
  unfold State.triggerSoft; simp
@[simp] theorem State.triggerSoft_ports (s : State) (m : MonitorName) (e : Word16) : (s.triggerSoft m e).ports = s.ports := by
  unfold State.triggerSoft; simp
@[simp] theorem State.triggerSoft_cst (s : State) (m : MonitorName) (e : Word16) : (s.triggerSoft m e).cst = s.cst := by
  unfold State.triggerSoft; simp
@[simp] theorem State.triggerSoft_sup (s : State) (m : MonitorName) (e : Word16) : (s.triggerSoft m e).sup = s.sup := by
  unfold State.triggerSoft; simp
@[simp] theorem State.triggerSoft_freeCount (s : State) (m : MonitorName) (e : Word16) : (s.triggerSoft m e).freeCount = s.freeCount := by
  unfold State.triggerSoft; simp
@[simp] theorem State.triggerSoft_pending (s : State) (m : MonitorName) (e : Word16) : (s.triggerSoft m e).pending = s.pending := by
  unfold State.triggerSoft; simp
@[simp] theorem State.triggerHard_sif (s : State) (m : MonitorName) (kind : TriggerKind) (e : Word16) : (s.triggerHard m kind e).sif = s.sif := by
  unfold State.triggerHard; simp
@[simp] theorem State.triggerHard_leu (s : State) (m : MonitorName) (kind : TriggerKind) (e : Word16) : (s.triggerHard m kind e).leu = s.leu := by
  unfold State.triggerHard; simp
@[simp] theorem State.triggerHard_gbu (s : State) (m : MonitorName) (kind : TriggerKind) (e : Word16) : (s.triggerHard m kind e).gbu = s.gbu := by
  unfold State.triggerHard; simp
@[simp] theorem State.triggerHard_ports (s : State) (m : MonitorName) (kind : TriggerKind) (e : Word16) : (s.triggerHard m kind e).ports = s.ports := by
  unfold State.triggerHard; simp
@[simp] theorem State.triggerHard_cst (s : State) (m : MonitorName) (kind : TriggerKind) (e : Word16) : (s.triggerHard m kind e).cst = s.cst := by
  unfold State.triggerHard; simp
@[simp] theorem State.triggerHard_sup (s : State) (m : MonitorName) (kind : TriggerKind) (e : Word16) : (s.triggerHard m kind e).sup = s.sup := by
  unfold State.triggerHard; simp
@[simp] theorem State.triggerHard_freeCount (s : State) (m : MonitorName) (kind : TriggerKind) (e : Word16) : (s.triggerHard m kind e).freeCount = s.freeCount := by
  unfold State.triggerHard; simp
@[simp] theorem State.triggerHard_pending (s : State) (m : MonitorName) (kind : TriggerKind) (e : Word16) : (s.triggerHard m kind e).pending = s.pending := by
  unfold State.triggerHard; simp

/-- The monitors after a trigger into SOFT (R114). -/
theorem State.triggerSoft_slm (s : State) (m : MonitorName) (e : Word16) :
    (s.triggerSoft m e).slm = s.slm.set m (s.softRecord m) := by
  unfold State.triggerSoft; simp

/-- The monitors after a trigger into HARD (R116). -/
theorem State.triggerHard_slm (s : State) (m : MonitorName) (kind : TriggerKind) (e : Word16) :
    (s.triggerHard m kind e).slm = s.slm.set m ((s.monitor m).hardRecord kind) := by
  unfold State.triggerHard; simp

/-- The engine after a trigger into SOFT: only the table moves. -/
theorem State.triggerSoft_gre (s : State) (m : MonitorName) (e : Word16) :
    (s.triggerSoft m e).gre = { s.gre with grants := (s.triggerSoft m e).gre.grants } := by
  unfold State.triggerSoft
  rw [State.takeTrigger_gre, State.clampGrants_gre]

/-- The engine after a trigger into HARD: only the table moves. -/
theorem State.triggerHard_gre (s : State) (m : MonitorName) (kind : TriggerKind) (e : Word16) :
    (s.triggerHard m kind e).gre = { s.gre with grants := (s.triggerHard m kind e).gre.grants } := by
  unfold State.triggerHard
  rw [State.takeTrigger_gre, State.clampGrants_gre]

/-- The table after a trigger into SOFT: each affected grant cut to its cap (R98). -/
theorem State.triggerSoft_grant (s : State) (m : MonitorName) (e : Word16) (k : GrantKey) :
    (s.triggerSoft m e).grant k
      = if k.monitor = m then
          (s.grant k).map fun g => (g.lower (((s.softCaps m).get k).getD 0)).rederive (s.softRecord m) k
        else s.grant k := by
  unfold State.triggerSoft
  have h : ∀ t : State, ∀ v, (t.takeTrigger m v e).grant k = t.grant k := fun t v => by
    simp [State.grant]
  rw [h, State.clampGrants_grant]

/-- The table after a trigger into HARD: each affected grant at 0 (R98). -/
theorem State.triggerHard_grant (s : State) (m : MonitorName) (kind : TriggerKind) (e : Word16) (k : GrantKey) :
    (s.triggerHard m kind e).grant k
      = if k.monitor = m then
          (s.grant k).map fun g => (g.lower 0).rederive ((s.monitor m).hardRecord kind) k
        else s.grant k := by
  unfold State.triggerHard
  have h : ∀ t : State, ∀ v, (t.takeTrigger m v e).grant k = t.grant k := fun t v => by
    simp [State.grant]
  rw [h, State.clampGrants_grant]

/-- The cap a SOFT trigger fixes for an affected key: soft_level of the granted force just before it (R114). -/
theorem State.softCaps_get (s : State) (m : MonitorName) (k : GrantKey) :
    (s.softCaps m).get k
      = if k.monitor = m then some ((s.grantedForce k).getD 0 * s.params.softLevel s.profile / 1000) else none := by
  cases m <;> cases k <;> rfl

/-- The friction learning unit after a trigger keeps its report counts and its learned friction (R67). -/
theorem State.triggerHard_flu (s : State) (m : MonitorName) (kind : TriggerKind) (e : Word16) :
    (s.triggerHard m kind e).flu.reports = s.flu.reports ∧ (s.triggerHard m kind e).flu.learned = s.flu.learned := by
  unfold State.triggerHard
  have h := State.takeTrigger_flu (s.clampGrants m ((s.monitor m).hardRecord kind) fun _ => 0) m (s.triggerForce m) e
  simpa using h

theorem State.triggerSoft_flu (s : State) (m : MonitorName) (e : Word16) :
    (s.triggerSoft m e).flu.reports = s.flu.reports ∧ (s.triggerSoft m e).flu.learned = s.flu.learned := by
  unfold State.triggerSoft
  have h := State.takeTrigger_flu (s.clampGrants m (s.softRecord m) fun k => ((s.softCaps m).get k).getD 0) m
    (s.triggerForce m) e
  simpa using h

/-! ### Captures -/

/-- What a capture does at its monitor where it triggers nothing: with the wheel INVALID the lock window stops and a
watching monitor goes IDLE, one in SOFT ending its clamp; with the wheel VALID the wheel seen and the window alone move
(R111, R119, R120). The friction learning unit and the lines take nothing. -/
theorem State.monitorCapture_quiet (s : State) (edge : Nat) (period : Option Nat) (seen : WheelState) (m : MonitorName)
    (h : seen = .invalid ∨ (s.monitor m).watching = false ∨ (s.monitor m).periodBeyond m period = false) :
    (s.monitorCapture edge period seen m).flu = s.flu ∧ (s.monitorCapture edge period seen m).lines = s.lines
      ∧ (s.monitorCapture edge period seen m).monitor m = (match seen with
        | .invalid => if (s.monitor m).watching = true then
            { (s.monitor m).idleRecord with wheelSeen := .invalid, window := none }
          else { s.monitor m with wheelSeen := .invalid, window := none }
        | .valid => { s.monitor m with wheelSeen := .valid, window := (s.monitor m).windowAfter m edge })
      ∧ ∀ k, k.monitor = m → (s.monitorCapture edge period seen m).grant k
          = if seen = .invalid ∧ (s.monitor m).state = .soft then
              (s.grant k).map fun g => { g with recovering := true }.rederive
                ((s.monitorCapture edge period seen m).monitor m) k
            else s.grant k := by
  unfold State.monitorCapture
  cases seen with
  | valid =>
    have : ¬((s.monitor m).watching && (s.monitor m).periodBeyond m period) = true := by
      rcases h with h | h | h
      · cases h
      · simp [h]
      · simp [h]
    simp only [this]
    refine ⟨rfl, rfl, ?_, ?_⟩
    · simp
    · intro k _; simp [State.grant_setMonitor]
  | invalid =>
    by_cases hw : (s.monitor m).watching = true
    · simp only [hw, if_true, State.idleMonitor, State.monitor_setMonitor_same]
      by_cases hs : (s.monitor m).state = .soft
      · simp only [hs, if_true]
        refine ⟨by simp, by simp, ?_, ?_⟩
        · simp [State.monitor, Monitor.idleRecord]
        · intro k hk
          rw [State.endClamp_grant]
          simp [hk, State.grant_setMonitor, State.monitor]
      · simp only [hs, if_false]
        refine ⟨rfl, rfl, ?_, ?_⟩
        · simp [Monitor.idleRecord]
        · intro k _; simp [State.grant_setMonitor]
    · have hs : (s.monitor m).state ≠ .soft := by
        intro e; exact hw (by simp [Monitor.watching, e])
      simp only [hw]
      refine ⟨rfl, rfl, ?_, ?_⟩
      · simp
      · intro k _; simp [hs, State.grant_setMonitor]

/-- A capture touches its own monitor and that monitor's grants alone. -/
theorem State.monitorCapture_other (s : State) (edge : Nat) (period : Option Nat) (seen : WheelState)
    (m j : MonitorName) (h : j ≠ m) :
    (s.monitorCapture edge period seen m).monitor j = s.monitor j
      ∧ ∀ k, k.monitor = j → (s.monitorCapture edge period seen m).grant k = s.grant k := by
  have hs : ∀ x y, (s.slm.set m x).get j = s.monitor j ∧ ((s.slm.set m y).set m x).get j = s.monitor j := by
    intro x y; cases m <;> cases j <;> first | exact absurd rfl h | exact ⟨rfl, rfl⟩
  have hk : ∀ k : GrantKey, k.monitor = j → k.monitor ≠ m := fun k e e' => h (e ▸ e')
  unfold State.monitorCapture
  split
  · simp only
    split
    · unfold State.idleMonitor
      split
      · refine ⟨by simp [State.monitor, State.setMonitor, hs], fun k e => ?_⟩
        rw [State.endClamp_grant, if_neg (hk k e), State.grant_setMonitor]
      · exact ⟨by simp [State.monitor, State.setMonitor, hs], fun k _ => rfl⟩
    · exact ⟨State.monitor_setMonitor_other _ _ _ _ h, fun k _ => rfl⟩
  · simp only
    split
    · refine ⟨by simp [State.monitor, State.triggerHard_slm, State.setMonitor, hs], fun k e => ?_⟩
      rw [State.triggerHard_grant, if_neg (hk k e), State.grant_setMonitor]
    · exact ⟨State.monitor_setMonitor_other _ _ _ _ h, fun k _ => rfl⟩

end Sys2Proof.Machine
end

