-- ==== Sys2Proof/Laws/Engine.lean ====
section
/-! SUPPORT. What the grant engine's shared computations can do: the three caps, the countdown step, the re-sharing. -/
namespace Sys2Proof.Machine

/-! ### Caps (R88) -/

theorem Monitor.clampCap_le (m : Monitor) (k : GrantKey) (v : Nat) : m.clampCap k v ≤ v := by
  unfold Monitor.clampCap
  split
  · exact Nat.zero_le v
  · split
    · exact Nat.min_le_left _ _
    · exact Nat.le_refl v
  · exact Nat.le_refl v
  · exact Nat.le_refl v
  · exact Nat.le_refl v
  · exact Nat.le_refl v

theorem Confirmation.frozenCap_le (c : Confirmation) (v : Nat) : c.frozenCap v ≤ v := by
  unfold Confirmation.frozenCap
  split
  · exact Nat.le_refl v
  · exact Nat.min_le_left _ _

theorem Grant.rampCap_le (g : Grant) (k : GrantKey) (ramp v : Nat) : g.rampCap k ramp v ≤ v := by
  unfold Grant.rampCap
  split
  · exact Nat.min_le_left _ _
  · exact Nat.le_refl v

/-- Each cap only lowers a value (R88). -/
theorem State.capped_le (s : State) (k : GrantKey) (g : Grant) (v : Nat) : s.capped k g v ≤ v :=
  Nat.le_trans (g.rampCap_le k s.ramp _) (Nat.le_trans (g.confirmation.frozenCap_le _) (Monitor.clampCap_le _ k v))

/-- Under a HARD monitor the caps leave nothing (R88, R98). -/
theorem State.capped_hard (s : State) (k : GrantKey) (g : Grant) (v : Nat)
    (h : (s.monitor k.monitor).state = .hard) : s.capped k g v = 0 := by
  have h0 : (s.monitor k.monitor).clampCap k v = 0 := by unfold Monitor.clampCap; rw [h]
  have h1 : g.confirmation.frozenCap ((s.monitor k.monitor).clampCap k v) ≤ 0 := by
    rw [h0]; exact g.confirmation.frozenCap_le 0
  have h2 := g.rampCap_le k s.ramp (g.confirmation.frozenCap ((s.monitor k.monitor).clampCap k v))
  unfold State.capped
  omega

/-- An UNCONFIRMED grant stays within its frozen ceiling (R88). -/
theorem State.capped_frozen (s : State) (k : GrantKey) (g : Grant) (v n : Nat) (cause : DoubtCause) (frozen : Nat)
    (h : g.confirmation = .unconfirmed n cause frozen) : s.capped k g v ≤ frozen := by
  unfold State.capped
  refine Nat.le_trans (g.rampCap_le k s.ramp _) ?_
  rw [h]
  exact Nat.min_le_right _ _

/-! ### The countdown step (R83) -/

@[simp] theorem State.countDownKey_sif (s : State) (k : GrantKey) : (s.countDownKey k).sif = s.sif := by
  unfold State.countDownKey; split <;> simp
@[simp] theorem State.countDownKey_leu (s : State) (k : GrantKey) : (s.countDownKey k).leu = s.leu := by
  unfold State.countDownKey; split <;> simp
@[simp] theorem State.countDownKey_gbu (s : State) (k : GrantKey) : (s.countDownKey k).gbu = s.gbu := by
  unfold State.countDownKey; split <;> simp
@[simp] theorem State.countDownKey_slm (s : State) (k : GrantKey) : (s.countDownKey k).slm = s.slm := by
  unfold State.countDownKey; split <;> simp
@[simp] theorem State.countDownKey_ports (s : State) (k : GrantKey) : (s.countDownKey k).ports = s.ports := by
  unfold State.countDownKey; split <;> simp
@[simp] theorem State.countDownKey_cst (s : State) (k : GrantKey) : (s.countDownKey k).cst = s.cst := by
  unfold State.countDownKey; split <;> simp
@[simp] theorem State.countDownKey_sup (s : State) (k : GrantKey) : (s.countDownKey k).sup = s.sup := by
  unfold State.countDownKey; split <;> simp
@[simp] theorem State.countDownKey_freeCount (s : State) (k : GrantKey) : (s.countDownKey k).freeCount = s.freeCount := by
  unfold State.countDownKey; split <;> simp
@[simp] theorem State.countDownKey_pending (s : State) (k : GrantKey) : (s.countDownKey k).pending = s.pending := by
  unfold State.countDownKey; split <;> simp

theorem State.countDownKey_grant (s : State) (k j : GrantKey) :
    (s.countDownKey k).grant j = if j = k then (s.grant k).bind Grant.countDown else s.grant j := by
  unfold State.countDownKey
  split
  · rename_i h
    split
    · rename_i hj; subst hj; rw [h]; rfl
    · rfl
  · rename_i g h
    rw [State.writeGrant_grant]
    simp [h]

theorem State.countDownKey_gre (s : State) (k : GrantKey) :
    (s.countDownKey k).gre = { s.gre with grants := (s.countDownKey k).gre.grants } := by
  unfold State.countDownKey; split <;> simp

@[simp] theorem State.countDown_sif (s : State) : s.countDown.sif = s.sif := by
  unfold State.countDown; simp
@[simp] theorem State.countDown_leu (s : State) : s.countDown.leu = s.leu := by
  unfold State.countDown; simp
@[simp] theorem State.countDown_gbu (s : State) : s.countDown.gbu = s.gbu := by
  unfold State.countDown; simp
@[simp] theorem State.countDown_slm (s : State) : s.countDown.slm = s.slm := by
  unfold State.countDown; simp
@[simp] theorem State.countDown_ports (s : State) : s.countDown.ports = s.ports := by
  unfold State.countDown; simp
@[simp] theorem State.countDown_cst (s : State) : s.countDown.cst = s.cst := by
  unfold State.countDown; simp
@[simp] theorem State.countDown_sup (s : State) : s.countDown.sup = s.sup := by
  unfold State.countDown; simp
@[simp] theorem State.countDown_freeCount (s : State) : s.countDown.freeCount = s.freeCount := by
  unfold State.countDown; simp
@[simp] theorem State.countDown_pending (s : State) : s.countDown.pending = s.pending := by
  unfold State.countDown; simp

/-- The table after the countdown step: each grant counted down or removed (R83). -/
theorem State.countDown_grant (s : State) (k : GrantKey) : s.countDown.grant k = (s.grant k).bind Grant.countDown := by
  unfold State.countDown
  cases k <;> simp [State.countDownKey_grant]

theorem State.countDown_gre (s : State) : s.countDown.gre = { s.gre with grants := s.countDown.gre.grants } := by
  unfold State.countDown
  rw [State.countDownKey_gre, State.countDownKey_gre, State.countDownKey_gre, State.countDownKey_gre]

/-! ### The re-sharing (R84 to R89) -/

/-- The table after the re-sharing: each grant shared, capped and settled. -/
theorem State.reshare_grant (s : State) (k : GrantKey) : s.reshare.grant k = (s.grant k).map (s.reshared k) := by
  unfold State.reshare
  rw [State.changeGrants_grant _ _ _ allKeys_nodup, if_pos (mem_allKeys k)]

theorem State.reshare_gre (s : State) : s.reshare.gre = { s.gre with grants := s.reshare.gre.grants } :=
  State.changeGrants_gre _ _ _

@[simp] theorem State.reshare_sif (s : State) : s.reshare.sif = s.sif := by
  unfold State.reshare; simp
@[simp] theorem State.reshare_leu (s : State) : s.reshare.leu = s.leu := by
  unfold State.reshare; simp
@[simp] theorem State.reshare_gbu (s : State) : s.reshare.gbu = s.gbu := by
  unfold State.reshare; simp
@[simp] theorem State.reshare_slm (s : State) : s.reshare.slm = s.slm := by
  unfold State.reshare; simp
@[simp] theorem State.reshare_ports (s : State) : s.reshare.ports = s.ports := by
  unfold State.reshare; simp
@[simp] theorem State.reshare_cst (s : State) : s.reshare.cst = s.cst := by
  unfold State.reshare; simp
@[simp] theorem State.reshare_sup (s : State) : s.reshare.sup = s.sup := by
  unfold State.reshare; simp
@[simp] theorem State.reshare_freeCount (s : State) : s.reshare.freeCount = s.freeCount := by
  unfold State.reshare; simp
@[simp] theorem State.reshare_pending (s : State) : s.reshare.pending = s.pending := by
  unfold State.reshare; simp
@[simp] theorem State.reshare_flu (s : State) : s.reshare.flu = s.flu := by
  unfold State.reshare; simp

/-- What the re-sharing settles in a grant, and what it keeps (R88, R89). -/
theorem State.reshared_spec (s : State) (k : GrantKey) (g : Grant) :
    (s.reshared k g).granted = s.capped k g (s.share k) ∧ (s.reshared k g).rampBase = s.capped k g (s.share k)
      ∧ (s.reshared k g).requested = g.requested ∧ (s.reshared k g).confirmation = g.confirmation
      ∧ (s.reshared k g).applied = g.applied ∧ (s.reshared k g).overuse = g.overuse
      ∧ (s.reshared k g).state
          = deriveState (s.monitor k.monitor) k g.requested (s.capped k g (s.share k)) :=
  ⟨rfl, rfl, rfl, rfl, rfl, rfl, rfl⟩

/-- A portion of a limit is within the requested force, and within the limit when the requests exceed it. -/
theorem portion_le (requested limit total : Nat) : portion requested limit total ≤ requested := by
  unfold portion
  split
  · exact Nat.le_refl _
  · rename_i hl
    have hpos : 0 < total := by omega
    refine Nat.div_le_of_le_mul ?_
    rw [Nat.mul_comm total requested]
    exact Nat.mul_le_mul_left requested (by omega)

/-- Two portions of one limit fit in it (R85, R87). -/
theorem portion_add_le (a b limit : Nat) : portion a limit (a + b) + portion b limit (a + b) ≤ limit := by
  unfold portion
  split
  · assumption
  · rename_i h
    have hpos : 0 < a + b := by omega
    have h1 : a * limit / (a + b) * (a + b) ≤ a * limit := Nat.div_mul_le_self _ _
    have h2 : b * limit / (a + b) * (a + b) ≤ b * limit := Nat.div_mul_le_self _ _
    have h3 : (a * limit / (a + b) + b * limit / (a + b)) * (a + b) ≤ limit * (a + b) := by
      rw [Nat.add_mul, Nat.mul_add limit, Nat.mul_comm limit a, Nat.mul_comm limit b]
      omega
    exact Nat.le_of_mul_le_mul_right h3 hpos

end Sys2Proof.Machine
end

