-- ==== Sys2Proof/Laws/Flash.lean ====
section
/-! SUPPORT. The flash memory: a byte read after a byte written, and the canonical form, which every memory operation
keeps. -/
namespace Sys2Proof.Machine

/-! ### The canonical form -/

theorem Memory.wfFrom_mono {lo hi : Nat} (h : lo ≤ hi) : ∀ {m : Memory}, m.wfFrom hi = true → m.wfFrom lo = true
  | [], _ => rfl
  | (x, v) :: rest, hm => by
    simp only [Memory.wfFrom, Bool.and_eq_true, decide_eq_true_eq] at hm ⊢
    exact ⟨⟨⟨Nat.le_trans h hm.1.1.1, hm.1.1.2⟩, hm.1.2⟩, hm.2⟩

/-- An address below a canonical tail reads erased. -/
theorem Memory.read_below {a lo : Nat} : ∀ {m : Memory}, m.wfFrom lo = true → a < lo → m.read a = erasedByte
  | [], _, _ => rfl
  | (x, v) :: rest, hm, h => by
    simp only [Memory.wfFrom, Bool.and_eq_true, decide_eq_true_eq] at hm
    have hx : a ≠ x := by omega
    simp only [Memory.read, if_neg hx]
    exact Memory.read_below hm.2 (by omega)

theorem Memory.put_wfFrom {lo a : Nat} {v : Byte} (hlo : lo ≤ a) (ha : a < flashSize) :
    ∀ {m : Memory}, m.wfFrom lo = true → (m.put a v).wfFrom lo = true
  | [], _ => by
    unfold Memory.put
    split
    · rfl
    · rename_i hv
      simp [Memory.wfFrom, hlo, ha, hv]
  | (x, u) :: rest, hm => by
    have hm' := hm
    simp only [Memory.wfFrom, Bool.and_eq_true, decide_eq_true_eq, bne_iff_ne, ne_eq] at hm
    obtain ⟨⟨⟨h1, h2⟩, h3⟩, h4⟩ := hm
    unfold Memory.put
    split
    · rename_i hax
      split
      · exact hm'
      · rename_i hv
        simp only [Memory.wfFrom, Bool.and_eq_true, decide_eq_true_eq, bne_iff_ne, ne_eq]
        exact ⟨⟨⟨hlo, ha⟩, hv⟩, ⟨⟨by omega, h2⟩, h3⟩, h4⟩
    · split
      · rename_i hax
        subst hax
        split
        · exact Memory.wfFrom_mono (by omega) h4
        · rename_i hv
          simp only [Memory.wfFrom, Bool.and_eq_true, decide_eq_true_eq, bne_iff_ne, ne_eq]
          exact ⟨⟨⟨hlo, ha⟩, hv⟩, h4⟩
      · simp only [Memory.wfFrom, Bool.and_eq_true, decide_eq_true_eq, bne_iff_ne, ne_eq]
        exact ⟨⟨⟨h1, h2⟩, h3⟩, Memory.put_wfFrom (by omega) ha h4⟩

/-- A byte put inside the array keeps the canonical form. -/
theorem Memory.put_wf {m : Memory} {a : Nat} {v : Byte} (ha : a < flashSize) (hm : m.wf = true) :
    (m.put a v).wf = true := Memory.put_wfFrom (Nat.zero_le a) ha hm

/-- Bytes put one after another keep the canonical form. -/
theorem Memory.putAll_wf {bytes : List Byte} : ∀ {m : Memory} {a : Nat}, m.wf = true → (m.putAll a bytes).wf = true := by
  induction bytes with
  | nil => exact fun h => h
  | cons v rest ih =>
    intro m a hm
    unfold Memory.putAll
    split
    · exact ih (Memory.put_wf ‹_› hm)
    · exact hm

theorem Memory.writeSector_wf {m : Memory} (k : Sector) (offset : Nat) (bytes : List Byte) (hm : m.wf = true) :
    (m.writeSector k offset bytes).wf = true := Memory.putAll_wf hm

theorem Memory.filter_wfFrom (p : Host.Cell → Bool) :
    ∀ {m : Memory} {lo : Nat}, m.wfFrom lo = true → Memory.wfFrom lo (m.filter p) = true := by
  intro m
  induction m with
  | nil => exact fun h => h
  | cons cell rest ih =>
    intro lo hm
    obtain ⟨x, v⟩ := cell
    simp only [Memory.wfFrom, Bool.and_eq_true, decide_eq_true_eq] at hm
    obtain ⟨⟨⟨h1, h2⟩, h3⟩, h4⟩ := hm
    rw [List.filter_cons]
    split
    · simp only [Memory.wfFrom, Bool.and_eq_true, decide_eq_true_eq]
      exact ⟨⟨⟨h1, h2⟩, h3⟩, ih h4⟩
    · exact Memory.wfFrom_mono (by omega) (ih h4)

theorem Memory.eraseSector_wf {m : Memory} (k : Sector) (hm : m.wf = true) : (m.eraseSector k).wf = true :=
  Memory.filter_wfFrom _ hm

theorem Memory.afterErase_wf {m : Memory} (k : Sector) (left : ArrayLeft) (hm : m.wf = true) :
    (m.afterErase k left).wf = true := by
  cases left with
  | none => exact Memory.eraseSector_wf k hm
  | some bytes => exact Memory.writeSector_wf k 0 bytes (Memory.eraseSector_wf k hm)

theorem Memory.programSector_wf {m : Memory} (k : Sector) (offset : Nat) (bytes : List Byte) (hm : m.wf = true) :
    (m.programSector k offset bytes).wf = true := Memory.writeSector_wf k offset _ hm

@[simp] theorem sentToArray_none (bytes : List Byte) : sentToArray bytes none = bytes := rfl

@[simp] theorem length_sentToArray (bytes : List Byte) (left : ArrayLeft) :
    (sentToArray bytes left).length = bytes.length := by
  cases left with
  | none => rfl
  | some other => simp only [sentToArray, List.length_append, List.length_take, List.length_drop]; omega

/-- A program puts as many bytes to the array as the request carried, those it carried when the array obeyed (R173). -/
theorem Memory.afterProgram_spec (m : Memory) (k : Sector) (offset : Nat) (bytes : List Byte) (left : ArrayLeft) :
    ∃ put, m.afterProgram k offset bytes left = m.programSector k offset put
      ∧ put.length = bytes.length ∧ (left = none → put = bytes) :=
  ⟨sentToArray bytes left, rfl, length_sentToArray bytes left, fun h => by rw [h]; rfl⟩

theorem Memory.afterProgram_wf {m : Memory} (k : Sector) (offset : Nat) (bytes : List Byte) (left : ArrayLeft)
    (hm : m.wf = true) : (m.afterProgram k offset bytes left).wf = true := Memory.programSector_wf k offset _ hm

theorem Memory.spoil_wf {m : Memory} (k : Sector) (offset : Nat) (bytes : List Byte) (hm : m.wf = true) :
    (m.spoil k offset bytes).wf = true := by
  simp only [Memory.spoil]
  split
  · exact Memory.writeSector_wf k offset _ (Memory.writeSector_wf k offset _ hm)
  · exact Memory.writeSector_wf k offset _ hm

theorem Memory.cutShort_wf {m : Memory} (use : Nat) (o : FlashOperation) (hm : m.wf = true) :
    (m.cutShort use o).wf = true := by
  cases o with
  | erase k => exact Memory.spoil_wf k 0 _ hm
  | program k offset bytes => exact Memory.spoil_wf k offset _ hm
  | lock => exact Memory.spoil_wf .s3 0 _ hm
  | wipe erased clean =>
    simp only [Memory.cutShort]
    cases wipeSector erased with
    | none => exact hm
    | some k => exact Memory.spoil_wf k 0 _ hm

/-! ### Reading after writing -/

theorem Memory.read_put_from {lo : Nat} {a b : Nat} {v : Byte} :
    ∀ {m : Memory}, m.wfFrom lo = true → (m.put a v).read b = if b = a then v else m.read b
  | [], _ => by
    unfold Memory.put
    by_cases hv : v = erasedByte
    · subst hv; simp [Memory.read]
    · simp [hv, Memory.read]
  | (x, u) :: rest, hm => by
    simp only [Memory.wfFrom, Bool.and_eq_true, decide_eq_true_eq] at hm
    obtain ⟨⟨⟨h1, h2⟩, h3⟩, h4⟩ := hm
    unfold Memory.put
    split
    · rename_i hax
      have hbelow : ∀ c, c ≤ a → Memory.read rest c = erasedByte := fun c hc => Memory.read_below h4 (by omega)
      split
      · rename_i hv
        by_cases hb : b = a
        · subst hb
          simp only [if_true, Memory.read]
          rw [if_neg (by omega), hbelow _ (Nat.le_refl _)]
          exact hv.symm
        · simp [hb]
      · simp [Memory.read]
    · split
      · rename_i hax
        subst hax
        split
        · rename_i hv
          by_cases hb : b = a
          · subst hb
            simp only [if_true]
            rw [Memory.read_below h4 (by omega)]
            exact hv.symm
          · simp [hb, Memory.read]
        · by_cases hb : b = a <;> simp [hb, Memory.read]
      · rename_i hax
        simp only [Memory.read]
        rw [Memory.read_put_from h4]
        by_cases hb : b = x
        · subst hb
          rw [if_pos rfl, if_pos rfl, if_neg (by omega)]
        · rw [if_neg hb, if_neg hb]

/-- A byte read after a byte put: the new byte at its address, every other byte as before. -/
theorem Memory.read_put {m : Memory} {a b : Nat} {v : Byte} (hm : m.wf = true) :
    (m.put a v).read b = if b = a then v else m.read b := Memory.read_put_from hm

/-- A byte read after bytes put from an address on: the byte put there, if there is one, else the byte before. -/
theorem Memory.read_putAll {bytes : List Byte} : ∀ {m : Memory} {a : Nat} (b : Nat), m.wf = true →
    (m.putAll a bytes).read b
      = if a ≤ b ∧ b < a + bytes.length ∧ b < flashSize then bytes.getD (b - a) erasedByte else m.read b := by
  induction bytes with
  | nil =>
    intro m a b _
    have : ¬(a ≤ b ∧ b < a + ([] : List Byte).length ∧ b < flashSize) := by simp only [List.length_nil]; omega
    rw [if_neg this]
    rfl
  | cons v rest ih =>
    intro m a b hm
    unfold Memory.putAll
    split
    · rename_i ha
      rw [ih b (Memory.put_wf ha hm), Memory.read_put hm]
      by_cases hb : b = a
      · subst hb
        have h1 : ¬(b + 1 ≤ b ∧ b < b + 1 + rest.length ∧ b < flashSize) := by omega
        have h2 : b ≤ b ∧ b < b + (v :: rest).length ∧ b < flashSize :=
          ⟨Nat.le_refl _, by simp only [List.length_cons]; omega, ha⟩
        rw [if_neg h1, if_pos rfl, if_pos h2]
        simp
      · rw [if_neg hb]
        by_cases h1 : a + 1 ≤ b ∧ b < a + 1 + rest.length ∧ b < flashSize
        · have h2 : a ≤ b ∧ b < a + (v :: rest).length ∧ b < flashSize :=
            ⟨by omega, by simp only [List.length_cons]; omega, h1.2.2⟩
          rw [if_pos h1, if_pos h2]
          obtain ⟨c, hc⟩ : ∃ c, b - a = c + 1 := ⟨b - a - 1, by omega⟩
          rw [hc, List.getD_cons_succ]
          congr 1
          omega
        · have h2 : ¬(a ≤ b ∧ b < a + (v :: rest).length ∧ b < flashSize) := by
            simp only [List.length_cons]
            omega
          rw [if_neg h1, if_neg h2]
    · rename_i ha
      have : ¬(a ≤ b ∧ b < a + (v :: rest).length ∧ b < flashSize) := by omega
      rw [if_neg this]

/-- A write into a sector leaves every byte outside its target bytes as it was. -/
theorem Memory.read_writeSector_outside {m : Memory} {k : Sector} {offset : Nat} {bytes : List Byte} {b : Nat}
    (hm : m.wf = true) (h : b < k.base + offset ∨ k.base + offset + bytes.length ≤ b ∨ k.base + 256 ≤ b) :
    (m.writeSector k offset bytes).read b = m.read b := by
  unfold Memory.writeSector
  rw [Memory.read_putAll b hm, if_neg]
  rw [List.length_take]
  omega

@[simp] theorem Memory.length_cleared (m : Memory) (k : Sector) (offset : Nat) (bytes : List Byte) :
    (m.cleared k offset bytes).length = bytes.length := by
  simp [Memory.cleared, Memory.readSector, Memory.readAll]

/-- A byte read after bytes programmed into a sector: a target byte keeps the bits set both before and in the byte
programmed, every other byte is as it was (R173, R175). -/
theorem Memory.read_programSector {m : Memory} (k : Sector) (offset : Nat) (bytes : List Byte) (b : Nat)
    (hm : m.wf = true) :
    (m.programSector k offset bytes).read b
      = if k.base + offset ≤ b ∧ b < k.base + offset + bytes.length ∧ b < k.base + 256 then
          m.read b &&& bytes.getD (b - (k.base + offset)) erasedByte
        else m.read b := by
  unfold Memory.programSector Memory.writeSector
  rw [Memory.read_putAll b hm, List.length_take, Memory.length_cleared]
  have hk : k.base + 256 ≤ flashSize := by cases k <;> decide
  by_cases h : k.base + offset ≤ b ∧ b < k.base + offset + bytes.length ∧ b < k.base + 256
  · obtain ⟨h1, h2, h3⟩ := h
    obtain ⟨i, rfl⟩ : ∃ i, b = k.base + offset + i := ⟨b - (k.base + offset), by omega⟩
    have hi : i < bytes.length := by omega
    rw [if_pos (by omega), if_pos ⟨h1, h2, h3⟩]
    have hsub : k.base + offset + i - (k.base + offset) = i := by omega
    have ht : i < 256 - offset := by omega
    simp [hsub, Memory.cleared, Memory.readSector, Memory.readAll, List.getD_eq_getElem?_getD, ht, hi]
  · rw [if_neg (by omega), if_neg h]

/-- Programming only clears bits: no byte holds a bit after that it did not hold before (R175). -/
theorem Memory.programSector_clears {m : Memory} (k : Sector) (offset : Nat) (bytes : List Byte) (b : Nat)
    (hm : m.wf = true) : (m.programSector k offset bytes).read b &&& m.read b = (m.programSector k offset bytes).read b := by
  rw [Memory.read_programSector k offset bytes b hm]
  split
  · rw [BitVec.and_comm (m.read b), BitVec.and_assoc, BitVec.and_self]
  · exact BitVec.and_self

/-- A byte read after an erase of its sector is erased; every other byte is as it was (R172). -/
theorem Memory.read_eraseSector (m : Memory) (k : Sector) (b : Nat) :
    (m.eraseSector k).read b = if k.base ≤ b ∧ b < k.base + 256 then erasedByte else m.read b := by
  unfold Memory.eraseSector
  induction m with
  | nil => simp [Memory.read]
  | cons cell rest ih =>
    obtain ⟨x, v⟩ := cell
    rw [List.filter_cons]
    by_cases hb : k.base ≤ b ∧ b < k.base + 256
    · rw [if_pos hb] at ih ⊢
      split
      · rename_i hx
        simp only [Bool.or_eq_true, decide_eq_true_eq] at hx
        simp only [Memory.read]
        rw [if_neg (by omega)]
        exact ih
      · exact ih
    · rw [if_neg hb] at ih ⊢
      split
      · simp only [Memory.read]
        rw [ih]
      · rename_i hx
        simp only [Bool.or_eq_true, decide_eq_true_eq] at hx
        simp only [Memory.read]
        rw [if_neg (by omega), ih]

/-! ### An operation cut short -/

theorem otherByte_ne (old now : Byte) : otherByte old now ≠ now := by
  unfold otherByte
  split
  · exact fun h => by simp_all
  · split
    · exact fun h => by simp_all
    · rename_i h
      have h0 : now = 0 := by simpa using h
      subst h0
      decide

theorem word16_toNat (hi lo : Byte) : (word16 hi lo).toNat = 256 * hi.toNat + lo.toNat := by
  have := hi.isLt
  have hlo := lo.isLt
  rw [word16, BitVec.toNat_append, ← Nat.shiftLeft_add_eq_or_of_lt hlo, Nat.shiftLeft_eq]
  omega

/-- One byte written into a sector. -/
theorem Memory.read_writeSector_one {m : Memory} {k : Sector} {offset : Nat} {v : Byte} (hm : m.wf = true)
    (h : offset < 256) (b : Nat) :
    (m.writeSector k offset [v]).read b = if b = k.base + offset then v else m.read b := by
  have hk : k.base + 256 ≤ flashSize := by cases k <;> decide
  have ht : [v].take (256 - offset) = [v] := List.take_of_length_le (by simp only [List.length_singleton]; omega)
  unfold Memory.writeSector
  rw [ht, Memory.putAll, if_pos (by omega), Memory.putAll, Memory.read_put hm]

theorem byteSum_readSector_succ (m : Memory) (k : Sector) (n : Nat) :
    byteSum (m.readSector k 0 (n + 1)) = byteSum (m.readSector k 0 n) + (m.read (k.base + n)).toNat := by
  simp [byteSum, Memory.readSector, Memory.readAll, List.range_succ]

/-- The sum of a sector's first `n` bytes after one byte is written: it differs by that byte, where the byte is among
them. -/
theorem byteSum_writeSector_one {m : Memory} {k : Sector} {offset : Nat} {v : Byte} (hm : m.wf = true)
    (h : offset < 256) (n : Nat) :
    byteSum ((m.writeSector k offset [v]).readSector k 0 n) + (if offset < n then (m.read (k.base + offset)).toNat else 0)
      = byteSum (m.readSector k 0 n) + if offset < n then v.toNat else 0 := by
  induction n with
  | zero => rfl
  | succ n ih =>
    rw [byteSum_readSector_succ, byteSum_readSector_succ, Memory.read_writeSector_one hm h]
    by_cases hn : n = offset
    · subst hn
      simp only [Nat.lt_irrefl, if_false, Nat.lt_succ_self, if_true] at ih ⊢
      omega
    · rw [if_neg (by omega)]
      split at ih <;> split <;> omega

theorem byteSum_readSector_le (m : Memory) (k : Sector) (n : Nat) : byteSum (m.readSector k 0 n) ≤ 255 * n := by
  induction n with
  | zero => exact Nat.le_refl 0
  | succ n ih =>
    have := (m.read (k.base + n)).isLt
    rw [byteSum_readSector_succ]
    omega

/-- A sector that passes its check fails it once any one of its bytes is changed (R162). -/
theorem Memory.passes_writeSector_one {m : Memory} {k : Sector} {offset : Nat} {v : Byte} (hm : m.wf = true)
    (h : offset < 256) (hp : m.passes k = true) (hv : v ≠ m.read (k.base + offset)) :
    (m.writeSector k offset [v]).passes k = false := by
  have hv' : v.toNat ≠ (m.read (k.base + offset)).toNat := fun e => hv (BitVec.eq_of_toNat_eq e)
  have sum := byteSum_writeSector_one (k := k) (v := v) hm h 254
  have le := byteSum_readSector_le m k 254
  have le' := byteSum_readSector_le (m.writeSector k offset [v]) k 254
  have := v.isLt
  have := (m.read (k.base + 254)).isLt
  have := (m.read (k.base + 255)).isLt
  simp only [Memory.passes, beq_iff_eq, unsigned16, word16_toNat] at hp
  simp only [Memory.passes, beq_eq_false_iff_ne, unsigned16, word16_toNat, ne_eq, Memory.read_writeSector_one hm h]
  by_cases h4 : offset = 254
  · subst h4
    simp only [Nat.lt_irrefl, if_false] at sum
    rw [if_pos rfl, if_neg (by omega)]
    omega
  · by_cases h5 : offset = 255
    · subst h5
      simp only [show ¬255 < 254 by omega, if_false] at sum
      rw [if_neg (by omega), if_pos rfl]
      omega
    · rw [if_neg (by omega), if_neg (by omega)]
      rw [if_pos (by omega), if_pos (by omega)] at sum
      omega

/-- A sector whose target bytes an operation was cut short on fails its check (R177). -/
theorem Memory.spoil_fails {m : Memory} {k : Sector} {offset : Nat} (bytes : List Byte) (hm : m.wf = true)
    (h : offset < 256) : (m.spoil k offset bytes).passes k = false := by
  simp only [Memory.spoil]
  split
  · exact Memory.passes_writeSector_one (Memory.writeSector_wf k offset bytes hm) h ‹_› (otherByte_ne _ _)
  · exact Bool.eq_false_iff.mpr ‹_›

end Sys2Proof.Machine
end

