-- ==== Sys2Proof/Laws/Starts.lean ====
section
/-! SUPPORT. What the ride settings, the working copy and the STATUS payload can do: a record's settings come back as they
went in, a computation's read of the settings, and the bytes of a sector that a load keeps. -/
namespace Sys2Proof.Machine

/-! ### Ride settings (R51, R63) -/

theorem profileOfCode_code (p : Profile) : profileOfCode p.code = some p := by cases p <;> rfl

theorem classOfCode_code (k : LoadClass) : classOfCode k.code = some k := by cases k <;> rfl

theorem policyOfCode_code (p : Policy) : policyOfCode p.code = some p := by cases p <;> rfl

/-- Settings that a rewrite retained come back whole at a warm start (R63, R191). -/
theorem RideSettings.restored_retained (r : RideSettings) : r.retained.restored = r := by
  obtain ⟨profile, pending, cls, policy⟩ := r
  cases pending <;>
    simp [RideSettings.retained, RetainedSettings.restored, profileOfCode_code, classOfCode_code, policyOfCode_code]

@[simp] theorem Gbu.settingsRead_unread (x : Gbu) (h : x.read = none) : x.settingsRead = x.settings := by
  simp [Gbu.settingsRead, h]

@[simp] theorem Gbu.settingsRead_read (x : Gbu) (r : RideSettings) (h : x.read = some r) : x.settingsRead = r := by
  simp [Gbu.settingsRead, h]

/-- A read moves nothing but the settings read, which a computation in flight takes once. -/
theorem Gbu.readsSettings_spec (x : Gbu) (before : Bool) :
    x.readsSettings before
      = { x with
          read := if (x.working = true ∧ x.read = none) ∧ before = true then some x.settings else x.read } := by
  obtain ⟨settings, loads, publication, working, read⟩ := x
  cases working <;> cases read <;> cases before <;> rfl

/-- A PROFILE_SET that no computation's read can precede is served on the settings as they stand. -/
theorem State.profileSetServed_settled (s : State) (r : Request) (h : s.gbu.readOpen = false) :
    s.profileSetServed r = s.serveProfileSet r := by
  simp [State.profileSetServed, State.profileSetAt, Gbu.readsSettings, h, State.setFreeCount, State.setGbu]

/-- A computation whose settings were not touched after its read leaves them as it has staged them. -/
theorem Gbu.settingsStaged_unread (x : Gbu) (staged : RideSettings) :
    x.settingsStaged x.settings staged = { x.settings with profile := staged.profile, pending := staged.pending } := by
  simp [Gbu.settingsStaged]

/-- What the pending-profile stage can do: it leaves class and policy, and the pending profile either stays with the
profile in force or becomes it (R50). -/
theorem RideSettings.stage_spec (r : RideSettings) (vRef : Nat) (driveHolds : Bool) :
    (r.stage vRef driveHolds).cls = r.cls ∧ (r.stage vRef driveHolds).policy = r.policy
      ∧ (r.stage vRef driveHolds = r
          ∨ ∃ q, r.pending = some q ∧ (r.stage vRef driveHolds).profile = q.profile
              ∧ (r.stage vRef driveHolds).pending = none) := by
  unfold RideSettings.stage
  split
  · exact ⟨rfl, rfl, .inl rfl⟩
  · rename_i q hq
    split
    · exact ⟨rfl, rfl, .inr ⟨q, hq, rfl, rfl⟩⟩
    · split
      · exact ⟨rfl, rfl, .inr ⟨q, hq, rfl, rfl⟩⟩
      · exact ⟨rfl, rfl, .inl rfl⟩

/-! ### The STATUS payload (R154) -/

/-- The entries of listed keys take at most six bytes each. -/
theorem statusEntries_length (s : State) (keys : List GrantKey) :
    (keys.map fun k => ((s.grant k).map (statusEntry k)).getD []).flatten.length ≤ 6 * keys.length := by
  induction keys with
  | nil => simp
  | cons k rest ih =>
    simp only [List.map_cons, List.flatten_cons, List.length_append, List.length_cons]
    cases s.grant k with
    | none => simp only [Option.map_none, Option.getD_none, List.length_nil]; omega
    | some g =>
      simp only [Option.map_some, Option.getD_some, statusEntry, bytesOfNat, bytesOfWord, List.length_append,
        List.length_cons, List.length_nil]
      omega

/-- A STATUS payload has 30 to 54 bytes (R154). -/
theorem State.statusPayload_length (s : State) (p : PortName) :
    30 ≤ (s.statusPayload p).length ∧ (s.statusPayload p).length ≤ 54 := by
  have h := statusEntries_length s p.listed
  have hk : p.listed.length ≤ 4 := by cases p <;> decide
  have hl : (statusLastBytes s.cst).length = 2 := by unfold statusLastBytes; split <;> rfl
  simp only [State.statusPayload, bytesOfWord, bytesOfNat, bytesOfInt, List.length_append, List.length_cons,
    List.length_nil, hl]
  omega

/-! ### The bytes a load keeps (R163, R202) -/

theorem unsigned16_injective {a b c d : Byte} (h : unsigned16 a b = unsigned16 c d) : a = c ∧ b = d := by
  have hw : word16 a b = word16 c d := BitVec.eq_of_toNat_eq h
  have hhi : (word16 a b).extractLsb' 8 8 = (word16 c d).extractLsb' 8 8 := by rw [hw]
  have hlo : (word16 a b).extractLsb' 0 8 = (word16 c d).extractLsb' 0 8 := by rw [hw]
  simp only [word16, BitVec.extractLsb'_append_eq_left, BitVec.extractLsb'_append_eq_right] at hhi hlo
  exact ⟨hhi, hlo⟩

theorem signed16_injective {a b c d : Byte} (h : signed16 a b = signed16 c d) : a = c ∧ b = d :=
  unsigned16_injective (congrArg BitVec.toNat (BitVec.eq_of_toInt_eq h))

theorem Memory.readSector_injective {m m' : Memory} {k : Sector} {offset n : Nat}
    (h : m.readSector k offset n = m'.readSector k offset n) :
    ∀ i, offset ≤ i → i < offset + n → m.read (k.base + i) = m'.read (k.base + i) := by
  intro i h1 h2
  have hi := congrArg (fun l => l[i - offset]?) h
  simp only [Memory.readSector, Memory.readAll, List.getElem?_map, List.getElem?_range (show i - offset < n by omega),
    Option.map_some, Option.some.injEq] at hi
  have e : k.base + offset + (i - offset) = k.base + i := by omega
  rwa [e] at hi

theorem Memory.u16_injective {m m' : Memory} {k : Sector} {i : Nat} (h : m.u16 k i = m'.u16 k i) :
    m.read (k.base + i) = m'.read (k.base + i) ∧ m.read (k.base + (i + 1)) = m'.read (k.base + (i + 1)) :=
  unsigned16_injective h

theorem Memory.s16_injective {m m' : Memory} {k : Sector} {i : Nat} (h : m.s16 k i = m'.s16 k i) :
    m.read (k.base + i) = m'.read (k.base + i) ∧ m.read (k.base + (i + 1)) = m'.read (k.base + (i + 1)) :=
  signed16_injective h

theorem Memory.u8_injective {m m' : Memory} {k : Sector} {i : Nat} (h : m.u8 k i = m'.u8 k i) :
    m.read (k.base + i) = m'.read (k.base + i) := BitVec.eq_of_toNat_eq h

theorem Memory.classParams_injective {m m' : Memory} {i : Nat} (h : m.classParams i = m'.classParams i) :
    ∀ j, i ≤ j → j < i + 6 → m.read (Sector.base .s0 + j) = m'.read (Sector.base .s0 + j) := by
  simp only [Memory.classParams, ClassParams.mk.injEq] at h
  obtain ⟨h1, h2, h3⟩ := h
  replace h1 := Memory.u16_injective h1
  replace h2 := Memory.u16_injective h2
  replace h3 := Memory.u16_injective h3
  intro j hj hj'
  obtain rfl | rfl | rfl | rfl | rfl | rfl : j = i ∨ j = i + 1 ∨ j = i + 2 ∨ j = i + 2 + 1 ∨ j = i + 4 ∨ j = i + 4 + 1 := by
    omega
  exacts [h1.1, h1.2, h2.1, h2.2, h3.1, h3.2]

/-- The parameters of S0 with its spare bytes fix bytes 0 to 253 of the sector: the working copy loses none (R163). -/
theorem Memory.vehicle_injective {m m' : Memory} (h : m.vehicle = m'.vehicle)
    (hs : m.spareBytes .s0 = m'.spareBytes .s0) :
    ∀ i, i < 254 → m.read (Sector.base .s0 + i) = m'.read (Sector.base .s0 + i) := by
  simp only [Memory.vehicle, VehicleSector.mk.injEq, PerWheel.mk.injEq, PerClass.mk.injEq, PerLine.mk.injEq] at h
  obtain ⟨⟨c0, c2⟩, ⟨t4, t5⟩, ⟨k6, k12, k18, k24⟩, r30, f32, f34, f36⟩ := h
  replace c0 := Memory.u16_injective c0
  replace c2 := Memory.u16_injective c2
  replace t4 := Memory.u8_injective t4
  replace t5 := Memory.u8_injective t5
  replace r30 := Memory.s16_injective r30
  replace f32 := Memory.u16_injective f32
  replace f34 := Memory.u16_injective f34
  replace f36 := Memory.u16_injective f36
  intro i hi
  by_cases h38 : 38 ≤ i
  · exact Memory.readSector_injective hs i h38 (by omega)
  by_cases h6 : 6 ≤ i ∧ i < 30
  · obtain h | h | h | h : i < 12 ∨ (12 ≤ i ∧ i < 18) ∨ (18 ≤ i ∧ i < 24) ∨ (24 ≤ i ∧ i < 30) := by omega
    exacts [Memory.classParams_injective k6 i h6.1 (by omega), Memory.classParams_injective k12 i h.1 (by omega),
      Memory.classParams_injective k18 i h.1 (by omega), Memory.classParams_injective k24 i h.1 (by omega)]
  obtain rfl | rfl | rfl | rfl | rfl | rfl | rfl | rfl | rfl | rfl | rfl | rfl | rfl | rfl :
      i = 0 ∨ i = 1 ∨ i = 2 ∨ i = 3 ∨ i = 4 ∨ i = 5 ∨ i = 30 ∨ i = 31 ∨ i = 32 ∨ i = 33 ∨ i = 34 ∨ i = 35 ∨ i = 36
        ∨ i = 37 := by omega
  exacts [c0.1, c0.2, c2.1, c2.2, t4, t5, r30.1, r30.2, f32.1, f32.2, f34.1, f34.2, f36.1, f36.2]

theorem Memory.profileParams_injective {m m' : Memory} {i : Nat} (h : m.profileParams i = m'.profileParams i) :
    ∀ j, i ≤ j → j < i + 19 → m.read (Sector.base .s1 + j) = m'.read (Sector.base .s1 + j) := by
  simp only [Memory.profileParams, ProfileParams.mk.injEq] at h
  obtain ⟨h0, h2, h4, h6, h8, h10, h12, h13, h14, h16, h18⟩ := h
  replace h0 := Memory.u16_injective h0
  replace h2 := Memory.u16_injective h2
  replace h4 := Memory.s16_injective h4
  replace h6 := Memory.s16_injective h6
  replace h8 := Memory.s16_injective h8
  replace h10 := Memory.s16_injective h10
  replace h12 := Memory.u8_injective h12
  replace h13 := Memory.u8_injective h13
  replace h14 := Memory.u16_injective h14
  replace h16 := Memory.u16_injective h16
  replace h18 := Memory.u8_injective h18
  intro j hj hj'
  obtain rfl | rfl | rfl | rfl | rfl | rfl | rfl | rfl | rfl | rfl | rfl | rfl | rfl | rfl | rfl | rfl | rfl | rfl | rfl :
      j = i ∨ j = i + 1 ∨ j = i + 2 ∨ j = i + 2 + 1 ∨ j = i + 4 ∨ j = i + 4 + 1 ∨ j = i + 6 ∨ j = i + 6 + 1
        ∨ j = i + 8 ∨ j = i + 8 + 1 ∨ j = i + 10 ∨ j = i + 10 + 1 ∨ j = i + 12 ∨ j = i + 13 ∨ j = i + 14
        ∨ j = i + 14 + 1 ∨ j = i + 16 ∨ j = i + 16 + 1 ∨ j = i + 18 := by omega
  exacts [h0.1, h0.2, h2.1, h2.2, h4.1, h4.2, h6.1, h6.2, h8.1, h8.2, h10.1, h10.2, h12, h13, h14.1, h14.2, h16.1,
    h16.2, h18]

theorem Memory.readSector_length (m : Memory) (k : Sector) (offset n : Nat) :
    (m.readSector k offset n).length = n := by
  simp [Memory.readSector, Memory.readAll]

/-- The parameters of S1 with its spare bytes fix bytes 0 to 253 of the sector (R163). -/
theorem Memory.profiles_injective {m m' : Memory} (h : m.profiles = m'.profiles)
    (hs : m.spareBytes .s1 = m'.spareBytes .s1) :
    ∀ i, i < 254 → m.read (Sector.base .s1 + i) = m'.read (Sector.base .s1 + i) := by
  simp only [Memory.profiles, PerProfile.mk.injEq] at h
  obtain ⟨p0, p32, p64⟩ := h
  have hl : ∀ a n, (m.readSector .s1 a n).length = (m'.readSector .s1 a n).length := fun a n => by
    rw [Memory.readSector_length, Memory.readSector_length]
  obtain ⟨h1, h83⟩ := List.append_inj' hs (hl 83 171)
  obtain ⟨h19, h51⟩ := List.append_inj' h1 (hl 51 13)
  intro i hi
  obtain h | h | h | h | h | h : i < 19 ∨ (19 ≤ i ∧ i < 32) ∨ (32 ≤ i ∧ i < 51) ∨ (51 ≤ i ∧ i < 64)
      ∨ (64 ≤ i ∧ i < 83) ∨ 83 ≤ i := by omega
  exacts [Memory.profileParams_injective p0 i (Nat.zero_le i) (by omega),
    Memory.readSector_injective h19 i h.1 (by omega), Memory.profileParams_injective p32 i h.1 (by omega),
    Memory.readSector_injective h51 i h.1 (by omega), Memory.profileParams_injective p64 i h.1 (by omega),
    Memory.readSector_injective h83 i h (by omega)]

/-- The parameters of S2 with its spare bytes fix bytes 0 to 253 of the sector (R163). -/
theorem Memory.arbitration_injective {m m' : Memory} (h : m.arbitration = m'.arbitration)
    (hs : m.spareBytes .s2 = m'.spareBytes .s2) :
    ∀ i, i < 254 → m.read (Sector.base .s2 + i) = m'.read (Sector.base .s2 + i) := by
  simp only [Memory.arbitration, ArbitrationSector.mk.injEq] at h
  obtain ⟨b0, b1, b2, b3, b4, b6, b8, b10, b12⟩ := h
  replace b0 := Memory.u8_injective b0
  replace b1 := Memory.u8_injective b1
  replace b2 := Memory.u8_injective b2
  replace b3 := Memory.u8_injective b3
  replace b4 := Memory.u16_injective b4
  replace b6 := Memory.u16_injective b6
  replace b8 := Memory.u16_injective b8
  replace b10 := Memory.u16_injective b10
  replace b12 := Memory.u8_injective b12
  intro i hi
  by_cases h13 : 13 ≤ i
  · exact Memory.readSector_injective hs i h13 (by omega)
  obtain rfl | rfl | rfl | rfl | rfl | rfl | rfl | rfl | rfl | rfl | rfl | rfl | rfl :
      i = 0 ∨ i = 1 ∨ i = 2 ∨ i = 3 ∨ i = 4 ∨ i = 5 ∨ i = 6 ∨ i = 7 ∨ i = 8 ∨ i = 9 ∨ i = 10 ∨ i = 11 ∨ i = 12 := by
    omega
  exacts [b0, b1, b2, b3, b4.1, b4.2, b6.1, b6.2, b8.1, b8.2, b10.1, b10.2, b12]

end Sys2Proof.Machine
end

