-- ==== Sys2Proof/Laws/Frames.lean ====
section
/-! SUPPORT. What frames say, in the terms of the formats chapter: which frames the ports take as valid, and what a STATUS
payload carries. -/
namespace Sys2Proof.Machine

/-! ### Valid frames (R143, R144, R198) -/

/-- One row of a table of codes: it gives its own kind, or the rows after it decide. -/
theorem code_of_ite {c n : Nat} {x k : MessageKind} {rest : Option MessageKind}
    (h : (if c = n then some x else rest) = some k) (hx : x.code = n) (hrest : rest = some k → c = k.code) : c = k.code := by
  split at h
  · rename_i hc
    cases h
    exact hc.trans hx.symm
  · exact hrest h

/-- A kind's code names it, and no other code does. -/
theorem kindOfCode_iff (c : Nat) (k : MessageKind) : kindOfCode c = some k ↔ c = k.code := by
  constructor
  · intro h
    unfold kindOfCode at h
    iterate 17 refine code_of_ite h rfl fun h => ?_
    cases h
  · rintro rfl
    cases k <;> rfl

/-- Every code fits a byte. -/
theorem byteOf_code (k : MessageKind) : (byteOf k.code).toNat = k.code := by cases k <;> rfl

/-- A port's right to a kind and the kind's lengths are those of the table. -/
theorem acceptedKinds_iff (k : MessageKind) (p : PortName) (n : Nat) :
    (k.accepts n = true ∧ p.mayReceive k = true)
      ↔ ∃ row ∈ acceptedKinds, row.kind = k ∧ p ∈ row.ports ∧ n ∈ row.lengths ∧ row.code = k.code := by
  cases k <;> cases p <;>
    simp [acceptedKinds, MessageKind.accepts, PortName.mayReceive, MessageKind.code, List.mem_range'_1]
  all_goals omega

/-- A length of the table is at most 18. -/
theorem acceptedKinds_short (row : AcceptedKind) (h : row ∈ acceptedKinds) (n : Nat) (hn : n ∈ row.lengths) : n ≤ 18 := by
  simp only [acceptedKinds, List.mem_cons, List.not_mem_nil, or_false] at h
  rcases h with rfl | rfl | rfl | rfl | rfl | rfl | rfl | rfl | rfl | rfl | rfl | rfl | rfl | rfl | rfl <;>
    (simp [List.mem_range'_1] at hn; omega)

theorem byteOf_of_toNat {b : Byte} {n : Nat} (h : b.toNat = n) : b = byteOf n := by
  subst h; simp [byteOf]

/-- R143: the part takes a frame as a request exactly where it passes the four tests as that request. -/
theorem Receiver.judge_iff (r : Receiver) (p : PortName) (q : Request) : r.judge p = some q ↔ r.validAs p q := by
  obtain ⟨k, payload⟩ := q
  constructor
  · intro h
    unfold Receiver.judge at h
    split at h
    · rename_i kind len rest hb
      split at h
      · cases h
      · rename_i k' hk
        split at h
        · rename_i hc
          simp only [Option.some.injEq, Request.mk.injEq] at h
          obtain ⟨rfl, rfl⟩ := h
          simp only [Bool.and_eq_true, Bool.not_eq_true', beq_iff_eq, decide_eq_true_eq] at hc
          obtain ⟨⟨⟨⟨⟨⟨hf, hlast⟩, -⟩, hcount⟩, hlen⟩, hacc⟩, hright⟩ := hc
          obtain ⟨row, hrow, hkind, hport, hl, hcode⟩ := (acceptedKinds_iff k' p len.toNat).1 ⟨hacc, hright⟩
          have hn : rest.length = len.toNat + 1 := by rw [hb] at hlen; simp at hlen; omega
          have hne : rest ≠ [] := by intro h0; simp [h0] at hn
          have hd : rest.dropLast.length = len.toNat := by simp [hn]
          have hk2 : kind = byteOf row.code := byteOf_of_toNat (((kindOfCode_iff _ _).1 hk).trans hcode.symm)
          have hl2 : len = byteOf rest.dropLast.length := byteOf_of_toNat hd.symm
          refine ⟨hf, hlen.symm, row, hrow, hkind, hport, hd ▸ hl, ?_⟩
          rw [hb, List.dropLast_cons_of_ne_nil (by simp), List.dropLast_cons_of_ne_nil hne,
            List.getLast?_cons_of_ne_nil (by simp), List.getLast?_cons_of_ne_nil hne] at hlast
          have hsplit : rest = rest.dropLast ++ [checkByte (kind :: len :: rest.dropLast)] := by
            conv => lhs; rw [← List.dropLast_append_getLast hne]
            rw [List.getLast?_eq_some_getLast hne] at hlast
            simp only [Option.some.injEq] at hlast
            rw [hlast]
          rw [← hk2, ← hl2, hb]
          exact congrArg (fun x => kind :: len :: x) hsplit
        · cases h
    · cases h
  · rintro ⟨hf, hcount, row, hrow, rfl, hport, hl, hb⟩
    have hlen := acceptedKinds_short row hrow _ hl
    have hcode : row.code = row.kind.code := by
      simp only [acceptedKinds, List.mem_cons, List.not_mem_nil, or_false] at hrow
      rcases hrow with rfl | rfl | rfl | rfl | rfl | rfl | rfl | rfl | rfl | rfl | rfl | rfl | rfl | rfl | rfl <;> rfl
    have hin := (acceptedKinds_iff row.kind p payload.length).2 ⟨row, hrow, rfl, hport, hl, hcode⟩
    have hln : (byteOf payload.length).toNat = payload.length := by
      simp only [byteOf, BitVec.toNat_ofNat]
      have : payload.length ≤ 18 := hlen
      omega
    have hk : kindOfCode (byteOf row.code).toNat = some row.kind := by
      rw [kindOfCode_iff, hcode, byteOf_code]
    have hl28 : payload.length ≤ 28 := Nat.le_trans hlen (by decide)
    have hlast : r.bytes.getLast? = some (checkByte r.bytes.dropLast) := by
      rw [hb, ← List.cons_append, ← List.cons_append, List.getLast?_concat, List.dropLast_concat]
      rfl
    unfold Receiver.judge
    rw [hcount, hlast, hb]
    simp [hk, hf, hln, hin.1, hin.2, hl28]

/-! ### The STATUS payload (R106, R154, R200) -/

theorem word16_bytesOfWord (w : Word16) : word16 (w.extractLsb' 8 8) (w.extractLsb' 0 8) = w := by
  apply BitVec.eq_of_getLsbD_eq
  intro i hi
  have h := BitVec.getLsbD_append (x := w.extractLsb' 8 8) (y := w.extractLsb' 0 8) (i := i)
  unfold word16
  rw [h]
  simp only [BitVec.getLsbD_extractLsb']
  split
  · simp [*]
  · rw [show 8 + (i - 8) = i by omega]
    simp; omega

/-- The entry of a grant says the grant. -/
theorem statusEntry_reports (k : GrantKey) (g : Grant) : g.reportedBy k (statusEntry k g) := by
  obtain ⟨requested, granted, rampBase, applied, state, recovering, overuse, confirmation⟩ := g
  refine ⟨rfl, by cases k <;> rfl, word16_bytesOfWord _, word16_bytesOfWord _, ?_⟩
  simp only [statusEntry, bytesOfNat, bytesOfWord, List.cons_append, List.nil_append, List.getD_cons_succ,
    List.getD_cons_zero, statusGrantByte]
  cases confirmation with
  | confirmed => cases state <;> cases recovering <;> cases overuse <;> simp [bitsOf, byteOf, bitOf, GrantState.code]
  | unconfirmed n cause frozen =>
    cases state <;> cases recovering <;> cases overuse <;> cases cause <;>
      simp [bitsOf, byteOf, bitOf, GrantState.code]

/-- The entries of a port's grants, one after another. -/
theorem statusEntries_eq (s : State) (keys : List GrantKey) :
    (keys.map fun k => ((s.grant k).map (statusEntry k)).getD []).flatten
      = ((keys.filterMap fun k => (s.grant k).map fun g => (k, g)).map fun x => statusEntry x.1 x.2).flatten := by
  induction keys with
  | nil => rfl
  | cons k rest ih => cases h : s.grant k <;> simp [h, ih]

/-- Six-byte entries joined: the length, and each entry where it stands. -/
theorem flatten_entries (l : List (GrantKey × Grant)) :
    ((l.map fun x => statusEntry x.1 x.2).flatten).length = 6 * l.length
      ∧ ∀ (i : Nat) k g, l[i]? = some (k, g) →
        (((l.map fun x => statusEntry x.1 x.2).flatten).drop (6 * i)).take 6 = statusEntry k g := by
  induction l with
  | nil => simp
  | cons x rest ih =>
    have h6 : (statusEntry x.1 x.2).length = 6 := rfl
    refine ⟨by simp [ih.1, h6]; omega, fun i k g h => ?_⟩
    cases i with
    | zero =>
      simp only [List.getElem?_cons_zero, Option.some.injEq] at h
      subst h
      simp [h6]
    | succ i =>
      simp only [List.getElem?_cons_succ] at h
      have := ih.2 i k g h
      simp only [List.map_cons, List.flatten_cons, List.drop_append, h6]
      rw [List.drop_of_length_le (by rw [h6]; omega), show 6 * (i + 1) - 6 = 6 * i by omega]
      simpa using this

/-- The entries begin behind the 30 fixed bytes. -/
theorem drop_fixed (fixed entries : List Byte) (h : fixed.length = 30) (n : Nat) :
    (fixed ++ entries).drop (30 + n) = entries.drop n := by
  rw [← h, List.drop_length_add_append]

/-! The bits of each packed byte. -/

theorem statusStartByte_bits (u : Sup) :
    bitsOf (statusStartByte u) 7 1 = bitOf (u.kind == .warm) ∧ bitsOf (statusStartByte u) 6 1 = 0
      ∧ bitsOf (statusStartByte u) 4 2 = u.cause.code ∧ bitsOf (statusStartByte u) 2 2 = 0
      ∧ bitsOf (statusStartByte u) 1 1 = bitOf (u.start == .running) ∧ bitsOf (statusStartByte u) 0 1 = bitOf u.low := by
  unfold statusStartByte
  generalize (u.kind == .warm) = a, (u.start == .running) = b, u.low = c, u.cause = d
  revert a b c
  cases d <;> decide

theorem statusConfidenceByte_bits (r : EstimateRecord) :
    bitsOf (statusConfidenceByte r) 0 3 = r.confidence.code ∧ bitsOf (statusConfidenceByte r) 3 1 = bitOf r.leanSat
      ∧ bitsOf (statusConfidenceByte r) 4 2 = r.refKind.code ∧ bitsOf (statusConfidenceByte r) 6 1 = bitOf r.vRefValid
      ∧ bitsOf (statusConfidenceByte r) 7 1 = 0 := by
  unfold statusConfidenceByte
  generalize r.confidence = a, r.refKind = b, r.leanSat = c, r.vRefValid = d
  revert c d
  cases a <;> cases b <;> decide

theorem statusProfileByte_bits (r : RideSettings) :
    bitsOf (statusProfileByte r) 0 2 = r.profile.code
      ∧ (r.pending = none → bitsOf (statusProfileByte r) 2 2 = 3 ∧ bitsOf (statusProfileByte r) 4 1 = 0)
      ∧ (∀ q, r.pending = some q →
        bitsOf (statusProfileByte r) 2 2 = q.profile.code ∧ bitsOf (statusProfileByte r) 4 1 = bitOf (q.kind == .deferred))
      ∧ bitsOf (statusProfileByte r) 5 3 = 0 := by
  obtain ⟨profile, pending, cls, policy⟩ := r
  cases pending with
  | none => cases profile <;> simp [statusProfileByte, bitsOf, byteOf, Profile.code]
  | some q =>
    obtain ⟨next, kind⟩ := q
    cases profile <;> cases next <;> cases kind <;> simp [statusProfileByte, bitsOf, byteOf, bitOf, Profile.code]

theorem statusClassByte_bits (r : RideSettings) :
    bitsOf (statusClassByte r) 0 2 = r.cls.code ∧ bitsOf (statusClassByte r) 2 2 = r.policy.code
      ∧ bitsOf (statusClassByte r) 4 4 = 0 := by
  unfold statusClassByte
  generalize r.cls = a, r.policy = b
  cases a <;> cases b <;> decide

theorem statusMonitorByte_bits (m : Monitor) :
    bitsOf (statusMonitorByte m) 0 3 = m.state.code ∧ bitsOf (statusMonitorByte m) 3 1 = 0
      ∧ bitsOf (statusMonitorByte m) 4 2 = m.trigger.code ∧ bitsOf (statusMonitorByte m) 6 2 = 0 := by
  unfold statusMonitorByte
  generalize m.state = a, m.trigger = b
  cases a <;> cases b <;> decide

theorem statusStoreByte_bits (c : Cst) :
    bitsOf (statusStoreByte c) 0 1 = bitOf c.defaulted.s0 ∧ bitsOf (statusStoreByte c) 1 1 = bitOf c.defaulted.s1
      ∧ bitsOf (statusStoreByte c) 2 1 = bitOf c.defaulted.s2 ∧ bitsOf (statusStoreByte c) 3 1 = bitOf (c.lock == .locked)
      ∧ bitsOf (statusStoreByte c) 4 1 = bitOf (c.session == .opened) ∧ bitsOf (statusStoreByte c) 5 3 = 0 := by
  unfold statusStoreByte
  generalize c.defaulted.s0 = a, c.defaulted.s1 = b, c.defaulted.s2 = d, (c.lock == .locked) = e,
    (c.session == .opened) = f
  revert a b d e f
  decide

theorem statusLastBytes_spec (c : Cst) :
    ∃ a b, statusLastBytes c = [a, b] ∧ (c.last = none → a = 0 ∧ b = 0)
      ∧ ∀ kind code, c.last = some (kind, code) → a.toNat = kind.code ∧ b.toNat = code.code := by
  unfold statusLastBytes
  cases h : c.last with
  | none => exact ⟨_, _, rfl, fun _ => ⟨rfl, rfl⟩, nofun⟩
  | some x =>
    refine ⟨_, _, rfl, nofun, fun kind code hx => ?_⟩
    cases hx
    exact ⟨byteOf_code kind, by cases code <;> rfl⟩

/-- What a STATUS payload carries (R154, R200). -/
theorem State.statusPayload_reports (s : State) (p : PortName) : s.reportedBy p (s.statusPayload p) := by
  have he : (p.listed.map fun k => ((s.grant k).map (statusEntry k)).getD []).flatten
      = ((s.listedGrants p).map fun x => statusEntry x.1 x.2).flatten := by
    rw [statusEntries_eq]; cases p <;> rfl
  obtain ⟨hn, hi⟩ := flatten_entries (s.listedGrants p)
  obtain ⟨l0, l1, hl, hnone, hsome⟩ := statusLastBytes_spec s.cst
  have hlen : (s.statusPayload p).length = 30 + 6 * (s.listedGrants p).length := by
    rw [State.statusPayload, he, hl]
    simp only [List.length_append, bytesOfWord, bytesOfNat, bytesOfInt, List.length_cons, List.length_nil, hn]
  have hentry : ∀ (i : Nat) k (g : Grant), (s.listedGrants p)[i]? = some (k, g) →
      g.reportedBy k (((s.statusPayload p).drop (30 + 6 * i)).take 6) := by
    intro i k g h
    rw [State.statusPayload, he, hl, drop_fixed _ _ (by simp only [List.length_append, bytesOfWord, bytesOfNat,
      bytesOfInt, List.length_cons, List.length_nil]), hi i k g h]
    exact statusEntry_reports k g
  have hmon (m : MonitorName) := statusMonitorByte_bits (s.monitor m)
  obtain ⟨a1, a2, a3, a4, a5, a6⟩ := statusStartByte_bits s.sup
  obtain ⟨c1, c2, c3, c4⟩ := statusProfileByte_bits s.gbu.settings
  obtain ⟨d1, d2, d3⟩ := statusClassByte_bits s.gbu.settings
  obtain ⟨e1, e2, e3, e4, e5, e6⟩ := statusStoreByte_bits s.cst
  refine ⟨?_, ?_, ?_, ?_, ?_, ?_, ?_, ?_, ?_, ?_, ?_, ?_, ?_, ?_, ?_, ?_, ?_, ?_, ?_, ?_, ?_, ?_, ?_, ?_, ?_, ?_, ?_, ?_, ?_,
    hlen, hentry⟩
  case refine_8 =>
    intro r hr
    have hb := statusConfidenceByte_bits r
    simp only [State.statusPayload, hl, hr, Option.getD_some, bytesOfWord, bytesOfNat, bytesOfInt, List.cons_append,
      List.nil_append, List.getD_cons_succ, List.getD_cons_zero, word16_bytesOfWord]
    simpa using hb
  case refine_19 =>
    intro m i hm
    simp only [List.mem_cons, Prod.mk.injEq, List.not_mem_nil, or_false] at hm
    obtain ⟨rfl, rfl⟩ | ⟨rfl, rfl⟩ | ⟨rfl, rfl⟩ := hm <;>
      simpa only [State.statusPayload, hl, bytesOfWord, bytesOfNat, bytesOfInt, List.cons_append, List.nil_append,
        List.getD_cons_succ, List.getD_cons_zero] using hmon _
  all_goals
    simp only [State.statusPayload, hl, bytesOfWord, bytesOfNat, bytesOfInt, List.cons_append, List.nil_append,
      List.getD_cons_succ, List.getD_cons_zero, word16_bytesOfWord]
  all_goals first | assumption | rfl

end Sys2Proof.Machine
end

