-- ==== Sys2Proof/Laws/Ports.lean ====
section
/-! SUPPORT. What a port's shared operations can do: the transmitter's taking of a frame, hand-on, answers, arrivals. -/
namespace Sys2Proof.Machine

@[simp] theorem Port.handed_reply (x : Port) (r : Reply) : (x.handed r).reply = r := rfl
@[simp] theorem Port.handed_away (x : Port) (r : Reply) : (x.handed r).away = (x.state != .up) := rfl

/-- What the transmitter's taking leaves alone, and how it moves the rest: the receive side, the request queue and the
counts stand; replies only leave from the head; the check-test count falls or stays. -/
theorem Port.take_spec (fuel : Nat) (x : Port) :
    (x.take fuel).state = x.state ∧ (x.take fuel).receiver = x.receiver ∧ (x.take fuel).silence = x.silence
      ∧ (x.take fuel).queue = x.queue ∧ (x.take fuel).outstanding = x.outstanding
      ∧ (x.take fuel).badFrames = x.badFrames ∧ (x.take fuel).discards = x.discards
      ∧ (x.take fuel).replies <:+ x.replies ∧ (x.take fuel).checkTest ≤ x.checkTest := by
  induction fuel generalizing x with
  | zero => simp [Port.take]
  | succ n ih =>
    unfold Port.take
    split
    · simp
    · split
      · simp
      · simp [Port.beginStatus]
      · rename_i r rest hr
        split
        · simp [Port.beginStatus, hr]
        · split
          · simp [hr]
          · have h := ih { x with replies := rest, lastSent := .reply }
            obtain ⟨h1, h2, h3, h4, h5, h6, h7, h8, h9⟩ := h
            refine ⟨h1, h2, h3, h4, h5, h6, h7, ?_, h9⟩
            rw [hr]
            exact h8.trans (List.suffix_cons r rest)

/-- Hand-on moves nothing but the outstanding mark, which it never clears (R146). -/
theorem Port.handOn_spec (x : Port) :
    x.handOn = { x with outstanding := x.outstanding || x.mayHandOn } := by
  unfold Port.handOn
  split
  · rename_i h; cases x; simp_all
  · rename_i h; cases x; simp_all

/-- What moving on leaves alone. -/
theorem Port.advance_spec (x : Port) :
    x.advance.state = x.state ∧ x.advance.receiver = x.receiver ∧ x.advance.silence = x.silence
      ∧ x.advance.queue = x.queue ∧ x.advance.badFrames = x.badFrames ∧ x.advance.discards = x.discards
      ∧ x.advance.replies <:+ x.replies ∧ x.advance.checkTest ≤ x.checkTest
      ∧ (x.outstanding = true → x.advance.outstanding = true) := by
  unfold Port.advance
  rw [Port.handOn_spec]
  have h := x.take_spec (x.replies.length + 1)
  refine ⟨h.1, h.2.1, h.2.2.1, h.2.2.2.1, h.2.2.2.2.2.1, h.2.2.2.2.2.2.1, h.2.2.2.2.2.2.2.1, h.2.2.2.2.2.2.2.2, ?_⟩
  intro ho
  simp only [h.2.2.2.2.1, ho, Bool.true_or]

/-- An answered request has left the queue; the port's presence and counts stand (R147). -/
theorem Port.answer_spec (x : Port) (r : Reply) :
    (x.answer r).queue = x.queue.tail ∧ (x.answer r).state = x.state ∧ (x.answer r).receiver = x.receiver
      ∧ (x.answer r).silence = x.silence ∧ (x.answer r).badFrames = x.badFrames
      ∧ (x.answer r).discards = x.discards ∧ (x.answer r).replies <:+ x.replies ++ [x.handed r] := by
  unfold Port.answer
  have h := Port.advance_spec { x.dequeue with replies := x.replies ++ [x.handed r] }
  exact ⟨h.2.2.2.1, h.1, h.2.1, h.2.2.1, h.2.2.2.2.1, h.2.2.2.2.2.1, h.2.2.2.2.2.2.1⟩

/-- Coming UP moves nothing but the silence count and the port state and, at Port C, the replies handed over before, which
leave, and the outstanding mark, which a place they free may set (R101, R145, R146, R195). -/
theorem Port.comesUp_spec (x : Port) (p : PortName) :
    x.comesUp p = { x with
      silence := 0
      state := .up
      replies := if p = .c then x.replies.filter fun r => !r.away else x.replies
      outstanding := x.outstanding
        || (p == .c && { x with replies := x.replies.filter fun r => !r.away }.mayHandOn) } := by
  unfold Port.comesUp Port.dropAway
  cases p
  · simp
  · simp
  · simp only [if_true, Port.handOn_spec]
    rfl

/-- An arriving request joins at the tail, or is discarded and counted (R145). -/
theorem Port.enqueue_spec (x : Port) (r : Request) :
    (x.enqueue r).queue = (if x.queue.length < 4 then x.queue ++ [r] else x.queue)
      ∧ (x.enqueue r).discards = (if x.queue.length < 4 then x.discards else min 255 (x.discards + 1))
      ∧ (x.enqueue r).replies = x.replies ∧ (x.enqueue r).state = x.state
      ∧ (x.enqueue r).badFrames = x.badFrames ∧ (x.enqueue r).receiver = x.receiver
      ∧ (x.enqueue r).transmitter = x.transmitter ∧ (x.enqueue r).slot = x.slot := by
  unfold Port.enqueue
  split
  · rw [Port.handOn_spec]; simp
  · simp [saturatingSucc]

/-! ### At the state -/

@[simp] theorem State.answer_sif (s : State) (p : PortName) (r : Reply) : (s.answer p r).sif = s.sif := rfl
@[simp] theorem State.answer_leu (s : State) (p : PortName) (r : Reply) : (s.answer p r).leu = s.leu := rfl
@[simp] theorem State.answer_gbu (s : State) (p : PortName) (r : Reply) : (s.answer p r).gbu = s.gbu := rfl
@[simp] theorem State.answer_flu (s : State) (p : PortName) (r : Reply) : (s.answer p r).flu = s.flu := rfl
@[simp] theorem State.answer_gre (s : State) (p : PortName) (r : Reply) : (s.answer p r).gre = s.gre := rfl
@[simp] theorem State.answer_slm (s : State) (p : PortName) (r : Reply) : (s.answer p r).slm = s.slm := rfl
@[simp] theorem State.answer_lines (s : State) (p : PortName) (r : Reply) : (s.answer p r).lines = s.lines := rfl
@[simp] theorem State.answer_cst (s : State) (p : PortName) (r : Reply) : (s.answer p r).cst = s.cst := rfl
@[simp] theorem State.answer_sup (s : State) (p : PortName) (r : Reply) : (s.answer p r).sup = s.sup := rfl
@[simp] theorem State.answer_freeCount (s : State) (p : PortName) (r : Reply) :
    (s.answer p r).freeCount = s.freeCount := rfl
@[simp] theorem State.answer_pending (s : State) (p : PortName) (r : Reply) : (s.answer p r).pending = s.pending := rfl

/-- An answer touches its own port alone. -/
theorem State.answer_port (s : State) (p q : PortName) (r : Reply) :
    (s.answer p r).port q = if q = p then (s.port p).answer r else s.port q := by
  unfold State.answer
  split
  · rename_i h; subst h; exact State.port_setPort_same _ _ _
  · rename_i h; exact State.port_setPort_other _ _ _ _ h

/-- Link presence: the silence count is 0; a port that was not UP comes UP, and the grants held through it become
CONFIRMED; nothing else moves (R101, R145). -/
theorem State.linkPresence_spec (s : State) (p : PortName) :
    (s.linkPresence p).port p
        = (if (s.port p).state = .up then { s.port p with silence := 0 } else (s.port p).comesUp p)
      ∧ (∀ q, q ≠ p → (s.linkPresence p).port q = s.port q)
      ∧ (∀ k, (s.linkPresence p).grant k
          = if (s.port p).state ≠ .up ∧ k ∈ p.keys then
              (s.grant k).map fun g => { g with confirmation := .confirmed }
            else s.grant k)
      ∧ (s.linkPresence p).lines = s.lines ∧ (s.linkPresence p).slm = s.slm ∧ (s.linkPresence p).cst = s.cst
      ∧ (s.linkPresence p).sup = s.sup := by
  unfold State.linkPresence
  by_cases h : (s.port p).state = .up
  · simp only [h, if_true]
    refine ⟨State.port_setPort_same _ _ _, fun q hq => State.port_setPort_other _ _ _ _ hq, ?_, rfl, rfl, rfl, rfl⟩
    intro k
    rw [if_neg (fun h => h.1 rfl)]
    rfl
  · simp only [h, if_false]
    unfold State.confirmGrants
    refine ⟨?_, ?_, ?_, ?_, ?_, ?_, ?_⟩
    · unfold State.port
      rw [State.changeGrants_ports]
      exact State.port_setPort_same _ _ _
    · intro q hq
      unfold State.port
      rw [State.changeGrants_ports]
      exact State.port_setPort_other _ _ _ _ hq
    · intro k
      rw [State.changeGrants_grant _ _ _ (portKeys_nodup p)]
      by_cases hk : k ∈ p.keys
      · rw [if_pos hk, if_pos ⟨h, hk⟩]; rfl
      · rw [if_neg hk, if_neg fun c => hk c.2]; rfl
    · exact State.changeGrants_lines _ _ _ fun _ _ => rfl
    · rw [State.changeGrants_slm]; rfl
    · rw [State.changeGrants_cst]; rfl
    · rw [State.changeGrants_sup]; rfl

end Sys2Proof.Machine
end

