-- ==== Sys2Proof/Tests/Slice0.lean ====
section
/-! SUPPORT. Tests: ill-formed commands, the worked examples of the spec's chapters, and for each statement with
hypotheses a state and operands that meet them, at the boundary values of their ranges. -/
namespace Sys2Proof.Tests

open Sys2Proof Sys2Proof.Machine

-- One theorem after another: the kernel evaluations below would otherwise wait for each other in one thread each.
set_option Elab.async false

/-! ## Well-formedness: each check refuses an ill-formed command -/

theorem test_lockWindow_of_spin_ill : (Instr.lockWindowExpiry .rearSpin).wellFormed = false := by decide
theorem test_lockWindow_of_lock_well : (Instr.lockWindowExpiry .rearLock).wellFormed = true := by decide
theorem test_erase_255_bytes_ill : (Instr.calEraseCompletion (some (List.replicate 255 0))).wellFormed = false := by
  decide +kernel
theorem test_erase_256_bytes_well : (Instr.calEraseCompletion (some (List.replicate 256 0))).wellFormed = true := by
  decide +kernel
theorem test_program_no_byte_ill : (Instr.calProgramCompletion (some [])).wellFormed = false := by decide
theorem test_program_17_bytes_ill : (Instr.calProgramCompletion (some (List.replicate 17 0))).wellFormed = false := by
  decide
theorem test_lock_2_bytes_ill : (Instr.calLockCompletion (some [0, 0])).wellFormed = false := by decide
theorem test_wipe_sector_1_byte_ill : (Instr.wipeSectorEraseCompletion (some [0])).wellFormed = false := by decide
theorem test_wipe_1_byte_ill : (Instr.calWipeCompletion (some [0])).wellFormed = false := by decide

/-! ## Small states -/

/-- The state a command leads to. -/
def after (c : Instr) (s : State) : State :=
  match exec c s with
  | .next t => t
  | .fault _ => s
  | .refused _ => s

/-- The part in RUNNING, everything else as reset leaves it. -/
def on : State :=
  (State.reset.setLeu { Leu.cold with cycleTimer := some 3999 }).setSup { Sup.fresh with start := .running }

/-- The same state in SENSOR_WAIT. -/
def waitingFor (s : State) : State := s.setSup { s.sup with start := .sensorWait, sensorWait := some 1000 }

/-- A port that is UP with its head outstanding. -/
def serving (r : Request) : Port := { Port.start with state := .up, queue := [r], outstanding := true }

/-- RUNNING with an outstanding request at a port. -/
def asked (p : PortName) (kind : MessageKind) (payload : List Byte) : State := on.setPort p (serving ⟨kind, payload⟩)

/-- A confirmed grant, granted as far as given. -/
def grant (requested granted : Nat) : Grant :=
  ⟨requested, granted, granted, none, if granted = requested then .full else .short, false, false, .confirmed⟩

/-- A state with the budgets of the steady corner in force. -/
def cornered (s : State) : State :=
  s.setGre { s.gre with budget := ⟨⟨1432, 1914⟩, 7, 900⟩ }

/-- A state with a grant and its line. -/
def holding (s : State) (k : GrantKey) (g : Grant) : State := s.writeGrant k (some g)

/-- The steady corner with a drive grant and the engine on a request of a holder. -/
def arrival (h : Holder) (kind : MessageKind) (payload : List Byte) : State :=
  let s := holding (cornered (asked h.port kind payload)) .eRearDrive (grant 900 900)
  s.setGre { s.gre with engine := .request h }

/-- A state whose monitor has a record. -/
def watching (s : State) (m : MonitorName) (state : MonitorState) (count : Nat) : State :=
  s.setMonitor m { Monitor.cold with state := state, count := count, lastSlip := some 0 }

/-- A state whose wheels are VALID at two speeds. -/
def rolling (s : State) (front rear : Nat) : State :=
  s.setSif { s.sif with wheels := ⟨⟨.valid, 0, some 100, some 2000, front, some 0⟩, ⟨.valid, 0, some 100, some 2000, rear, some 0⟩⟩ }

/-- A state with a computation in flight from a valid sample at two speeds. -/
def sampled (s : State) (vRef rear : Nat) : State :=
  let t := rolling s vRef rear
  (t.setSif { t.sif with sample :=
      ⟨⟨-500, 0, 1500, 100, 0, 1134, 5, 1⟩, true, ⟨vRef, rear⟩, ⟨true, true⟩, vRef, true⟩ }).setLeu
    { t.leu with work := .ordinary }

/-- An inertial block of zeros: its check word does not match. -/
def badBlock : Vector Byte 16 := Vector.replicate 16 0

/-- A block with counter 1, ready, yaw 1500, az 1134 and its check word. -/
def goodBlock : Vector Byte 16 := #v[1, 1, 0, 0, 0, 0, 5, 0xDC, 0, 0, 0, 0, 4, 0x6E, 0xFE, 0xAA]

/-- The corner of the lean estimate's worked example as a publication. -/
def corner : Publication :=
  ⟨⟨7, .tracking, 2800, 2800000, 100, .yaw, 2810, 100, 3000, true, false⟩,
    ⟨⟨0, 0, 1500, 100, 0, 1134, 5, 1⟩, true, ⟨3000, 3000⟩, ⟨true, true⟩, 3000, true⟩⟩

/-- The corner with its budget computation in flight. -/
def budgeting : State :=
  (on.setLeu { on.leu with published := some corner }).setGbu { on.gbu with working := true }

/-- A record with one rear brake grant. -/
def record (monitors : PerMonitor RetainedMonitor) : RecordContents :=
  ⟨9, 1000000, 875, [⟨824, 10⟩], ⟨0, none, 0, 0⟩, ⟨⟨1432, 1914⟩, 9, 900⟩,
    ⟨none, none, none, some ⟨800, 800, some 700, .full, false, false⟩⟩, monitors⟩

/-- Three monitors' records: HARD for the front lock, SOFT for the rear lock. -/
def monitors : PerMonitor RetainedMonitor := ⟨⟨.armed, .none⟩, ⟨.soft, .syncSoft⟩, ⟨.hard, .immediate⟩⟩

/-- Held in RESET by the reset line, with a record. -/
def heldWith (r : RetainedRecord) (outage : Nat) : State :=
  State.reset.setSup { Sup.fresh with
    start := .reset, rstLow := true, entry := .resetLine, record := r, outage := outage }

/-- RUNNING, session OPEN, store UNLOCKED, a request outstanding at Port C. -/
def calibrating (kind : MessageKind) (payload : List Byte) : State :=
  let s := asked .c kind payload
  s.setCst { s.cst with session := .opened, lock := .unlocked }

/-- RUNNING with a flash operation in flight. -/
def operating (kind : MessageKind) (o : FlashOperation) : State :=
  let s := calibrating kind []
  s.setCst { s.cst with operation := some ⟨o, 1⟩ }

/-! ## The spec's worked examples -/

/-- 00_scope.md, 02: the arctangent table at 534 and at 153; 03, 04: the tangent table at 2900, 4100 and 2810. -/
theorem test_tables :
    arctangentTable 534 = 2810 ∧ arctangentSigned (-153) = -870 ∧ tangentTable 2900 = 554 ∧ tangentTable 4100 = 869
      ∧ tangentTable 2810 = 534 ∧ tangentTable 6000 = 1732 ∧ arctangentTable 1732 = 6000 := by decide +kernel

/-- 03, 06: square roots of the worked examples. -/
theorem test_isqrt : isqrt 503084 = 709 ∧ isqrt 693084 = 832 ∧ isqrt 183084 = 427 ∧ isqrt 260093 = 509
    ∧ isqrt 679540 = 824 := by decide +kernel

/-- 03, the steady corner: loads 2379 and 3181, budgets 1432 and 1914. -/
theorem test_budget_corner :
    ((after .budgetPublication budgeting).gbu.publication.map fun q =>
      [q.record.front.load, q.record.rear.load, q.record.front.long, q.record.rear.b, q.record.front.budget,
        q.record.rear.budget])
      = some [2379, 3181, 709, 602, 1432, 1914] := by decide +kernel

/-- 03, the same corner braking at a_f −600 mg: 2416 and 930. -/
theorem test_budget_braking :
    wheelBudget (wheelLoads 5560 (frontFraction 470 420 (-600))).load.front 602 80 false = 2416
      ∧ wheelBudget (wheelLoads 5560 (frontFraction 470 420 (-600))).load.rear 602 80 false = 930 := by decide +kernel

/-- 04, a rear spin mid-corner: μ_obs 824 from 2000 N, 898 from 2300 N. -/
theorem test_slip_event :
    ((after .budgetPublication budgeting).gbu.publication.bind fun q => slipEvent ⟨q.record, q.profile,
        { q.estimate with lean := 2810 }⟩ .rearSpin 2000) = some ⟨824, 0⟩
      ∧ ((after .budgetPublication budgeting).gbu.publication.bind fun q => slipEvent ⟨q.record, q.profile,
        { q.estimate with lean := 2810 }⟩ .rearSpin 2300) = some ⟨898, 0⟩ := by decide +kernel

/-- 05, the three policies on 900 drive, 300 drag, 1200 brake at 1914: the table of shares. -/
theorem test_shares :
    [Policy.brakeFirst, .proportional, .fixedSplit].map (fun policy =>
      let s := cornered (on.setGre { on.gre with
        grants := ⟨some (grant 900 0), some (grant 300 0), none, some (grant 1200 0)⟩, policy := policy })
      [s.share .eRearDrive, s.share .eRearBrake, s.share .bRearBrake])
      = [[414, 300, 1200], [717, 239, 957], [765, 229, 919]] := by decide +kernel

/-- 05, a brake request of 800 N beside a drive grant of 900 N: room 1014, granted 800, FULL. -/
theorem test_brake_request :
    ((after .grantRequest (arrival .b .grantRequest [1, 1, 3, 0x20, 0])).grant .bRearBrake).map Grant.granted
      = some 800 := by decide +kernel

/-- 11, the brake arrives at a drive of 1500 N granted: the cut is 386, drive 1114. -/
theorem test_brake_cuts_drive :
    let s := arrival .b .grantRequest [1, 1, 3, 0x20, 1]
    ((after .grantRequest (s.writeGrant .eRearDrive (some (grant 1500 1500)))).grantedForce .eRearDrive)
      = some 1114 := by decide +kernel

/-- 07, codes and encoded forces of the table. -/
theorem test_codes :
    [targetCode 6000 (some 1800), targetCode 6000 (some 1374), targetCode 9000 (some 2000), targetCode 4000 (some 800),
        targetCode 4000 (some 5000), targetCode 6000 (some 0), targetCode 6000 none]
      = [340, 283, 277, 260, 900, 100, 50]
    ∧ [encodedForce 6000 340, encodedForce 6000 283, encodedForce 9000 277, encodedForce 4000 260, encodedForce 4000 900,
        encodedForce 6000 100] = [1800, 1372, 1991, 800, 4000, 0] := by decide +kernel

/-- 08: the check byte of 0x21 0x02 0x03 0xE8. -/
theorem test_check_byte : checkByte [0x21, 0x02, 0x03, 0xE8] = 0x92 := by decide

/-- 12, the worked STATUS frame to Port E: its packed bytes, its two-byte fields and its one entry. -/
theorem test_status_frame :
    let s := (holding on .eRearDrive ⟨1800, 1080, 1080, none, .clamped, false, false, .confirmed⟩).setMonitor .rearSpin
      { Monitor.cold with state := .soft, trigger := .syncSoft }
    let payload := (s.setGre { s.gre with
      budget := ⟨⟨1432, 1914⟩, 7, 900⟩
      reported := some ⟨7, .tracking, 2800, 2800000, 100, .yaw, 2810, 0, 2000, true, false⟩ }).statusPayload .e
    payload.length = 36 ∧ payload.getD 3 0 = 0x52 ∧ (payload.drop 4).take 4 = [0x0A, 0xF0, 0x00, 0x64]
      ∧ (payload.drop 14).take 6 = [0x05, 0x98, 0x07, 0x7A, 0x03, 0x84] ∧ payload.getD 22 0 = 0x13
      ∧ payload.drop 30 = [0x00, 0x07, 0x08, 0x04, 0x38, 0x02] := by decide +kernel

/-- 12: a GRANT_REQUEST of the brake controller as it is sent; the same from Port C, which has no right to it. -/
theorem test_valid_frame :
    let r : Receiver := ⟨.assembling, [0x20, 0x05, 0x01, 0x01, 0x03, 0x20, 0x01, 0x5D], 8, false, 0⟩
    r.validAs .b ⟨.grantRequest, [0x01, 0x01, 0x03, 0x20, 0x01]⟩
      ∧ ¬r.validAs .c ⟨.grantRequest, [0x01, 0x01, 0x03, 0x20, 0x01]⟩ := by decide +kernel

/-- 06, a soft trigger from 1800 N at soft_level 600: cap 1080, CLAMPED. -/
theorem test_soft_cap :
    let s := holding (on.setGre { on.gre with budget := ⟨⟨2000, 2000⟩, 7, 900⟩ }) .eRearDrive (grant 1800 1800)
    ((s.triggerSoft .rearSpin 8).grant .eRearDrive).map (fun g => (g.granted, g.state)) = some (1080, .clamped) := by
  decide +kernel

/-- 10, 11: a warm start after 60 ms of outage enters with U 875. -/
theorem test_warm_uncertainty : warmUncertainty 60 = 875 := by decide

/-! ## Witnesses: states and operands that meet the hypotheses of the statements -/

/-- Every law holds of a part with a grant, and a step is taken there. -/
def lawful : State := (holding (cornered on) .eRearDrive (grant 900 900)).setPending [.linePeriodStart .cld]

theorem witness_Laws :
    lawful.cst.flash.wf = true ∧ lawful.grantsBounded = true ∧ lawful.withinBudget = true
      ∧ lawful.hardHoldsNothing = true ∧ lawful.linesTruthful = true ∧ lawful.startAgrees = true
      ∧ lawful.capacitiesKept = true ∧ lawful.learningKept = true ∧ lawful.estimateInRange = true
      ∧ lawful.programsUnlocked = true := by decide +kernel
theorem witness_Laws_step : ∃ t, step lawful = .next t := ⟨_, rfl⟩

theorem witness_StepRunsFront : State.reset.pending = [] := rfl
theorem witness_HeldPartIgnores :
    (heldWith ⟨none, false, 0⟩ 255).operating = false ∧ (Instr.frameSent .e).isSupervision = false := by decide
theorem witness_ForcesRiseOnlyWhereGranted :
    (∃ t, exec .grantRelease lawful = .next t) ∧ Instr.grantRelease.isSupervision = false
      ∧ Instr.grantRelease ≠ .reevaluationCompletion ∧ (∀ j, Instr.grantRelease ≠ .grantCountdownExpiry j)
      ∧ Instr.grantRelease ≠ .grantRequest := ⟨⟨_, rfl⟩, by decide, by decide, nofun, by decide⟩
theorem witness_StoreFrame :
    (∃ t, exec .calErase (calibrating .calErase [2]) = .next t) ∧ Instr.calErase.isSupervision = false
      ∧ Instr.calErase ≠ .loadCompletion ∧ Instr.calErase.isFlashCompletion = false :=
  ⟨⟨_, rfl⟩, by decide, by decide, by decide⟩
theorem witness_LockProtectsParameters :
    (∃ t, exec (.calLockCompletion none) (on.setCst { on.cst with operation := some ⟨.lock, 1⟩ }) = .next t)
      ∧ (on.setCst { on.cst with operation := some ⟨.lock, 1⟩ }).programsUnlocked = true
      ∧ (on.setCst { on.cst with operation := some ⟨.lock, 1⟩ }).cst.flash.wf = true ∧ on.cst.lock = .locked
      ∧ (∀ erased clean n, (some ⟨.lock, 1⟩ : Option OperationInFlight) ≠ some ⟨.wipe erased clean, n⟩)
      ∧ 767 < Sector.base .s3 := ⟨⟨_, rfl⟩, by decide, by decide, by decide, nofun, by decide⟩

/-! ### The sample path -/

/-- RUNNING, a port UP with a silence count. -/
def silent (p : PortName) (n : Nat) : State := on.setPort p { Port.start with state := .up, silence := n }

theorem witness_CycleTimerExpires :
    (silent .e 10).operating = true ∧ (silent .e 10).leu.cycleTimer = some 3999
      ∧ ∀ p, ((silent .e 10).port p).state = .up → ((silent .e 10).port p).silence + 1 < 12 :=
  ⟨by decide, by decide, fun p => by cases p <;> decide⟩
/-- A microsecond of a part that operates and of one held in OFF; the cycle timer at its end, a silence timer at its end
and before it. -/
theorem witness_CycleTimerExpires_tick :
    on.pending = [] ∧ on.operating = true ∧ (on.setSup { on.sup with start := .off }).operating = false
      ∧ (silent .e 10).tick.leu.cycleTimer = some 3999
      ∧ ((on.setWheel .rear { WheelInput.start with silence := some 100000 }).tick.wheel .rear).silence = some 100000
      ∧ ((on.setWheel .rear { WheelInput.start with silence := some 99999 }).tick.wheel .rear).silence = some 100000 := by
  decide
theorem witness_SilentPortLost :
    (silent .c 11).operating = true ∧ (silent .c 11).leu.cycleTimer = some 3999 ∧ ((silent .c 11).port .c).state = .up
      ∧ 12 ≤ ((silent .c 11).port .c).silence + 1 := by decide

/-- Port C goes LOST at an expiry that takes Port E's count to 11. -/
theorem witness_SilentPortLost_other :
    let s := (silent .c 11).setPort .e { Port.start with state := .up, silence := 10 }
    (s.port .e).silence + 1 < 12 ∧ ((after .cycleTimerExpiry s).port .e).silence = 11
      ∧ ((after .cycleTimerExpiry s).port .e).state = .up ∧ ((after .cycleTimerExpiry s).port .c).state = .lost := by
  decide

/-- RUNNING with a transaction in flight. -/
def sampling (s : State) : State := s.setSif { s.sif with transaction := true, mosi := blockCommand }

/-- Its check word, its ready bit, a repeated counter, and channels of 32767, 32766, −32768 and −32766. -/
theorem witness_SamplesJudged :
    (sampling on).operating = true ∧ (sampling on).sif.transaction = true
      ∧ blockValid goodBlock (sampling on).sif.lastValid = true
      ∧ blockValid badBlock (sampling on).sif.lastValid = false
      ∧ blockValid ((goodBlock.set 1 0).set 15 0xAB) none = false
      ∧ blockValid goodBlock (some { Inertial.zero with counter := 1 }) = false
      ∧ blockValid ((((goodBlock.set 2 0x7F).set 3 0xFF).set 14 0xFD).set 15 0x2C) none = false
      ∧ blockValid ((((goodBlock.set 2 0x7F).set 3 0xFE).set 14 0xFD).set 15 0x2D) none = true
      ∧ blockValid (((goodBlock.set 2 0x80).set 14 0xFE).set 15 0x2A) none = false
      ∧ blockValid ((((goodBlock.set 2 0x80).set 3 2).set 14 0xFE).set 15 0x28) none = true := by decide +kernel
/-- Each clause is met: both wheels VALID with a_f 0 and −1, one silent beside 1001 and beside 1000 cm/s. -/
theorem witness_ReferenceSpeedFormed :
    let s := sampling (rolling on 3000 3100)
    let slow (v : Nat) : State := sampling (on.setSif { on.sif with
      wheels := ⟨.start, ⟨.valid, 0, some 100, some 2000, v, some 0⟩⟩ })
    s.operating = true ∧ s.sif.transaction = true
      ∧ (after (.transactionCompletion goodBlock) s).sif.vRef = 3000
      ∧ (after (.transactionCompletion goodBlock) (s.setLeu { s.leu with aF := -1 })).sif.vRef = 3100
      ∧ ((after (.transactionCompletion goodBlock) (slow 1001)).wheel .front).state = .invalid
      ∧ (after (.transactionCompletion goodBlock) (slow 1001)).sif.vRef = 1001
      ∧ ((after (.transactionCompletion goodBlock) (slow 1000)).wheel .front).state = .valid := by decide +kernel
/-- Periods of 20 and 19, no time of last edge, and an INVALID wheel one tooth short of its turn. -/
theorem witness_ToothCaptured :
    let s := rolling on 3000 3100
    s.operating = true ∧ (s.wheel .rear).lastEdge = some 100 ∧ (on.wheel .rear).lastEdge = none
      ∧ ((after (.toothCapture .rear 120) s).wheel .rear).state = .valid
      ∧ ((after (.toothCapture .rear 119) s).wheel .rear).state = .invalid := by decide +kernel

/-- An INVALID rear wheel with a plausible-tooth count. -/
def counting (n : Nat) : State := on.setWheel .rear ⟨.invalid, n, some 100, none, 0, some 5⟩

theorem witness_WheelValidity :
    (counting 47).operating = true ∧ ((counting 47).wheel .rear).state = .invalid
      ∧ ((counting 47).wheel .rear).lastEdge = some 100 ∧ 20 ≤ 120 - 100
      ∧ (counting 47).params.teeth .rear ≤ ((counting 47).wheel .rear).plausible + 1
      ∧ ((after (.toothCapture .rear 120) (counting 46)).wheel .rear).state = .invalid := by decide +kernel

/-! ### The estimate -/

/-- What a publication of an ordinary computation carries. -/
def shown (s : State) : Option EstimateRecord := (after .estimatePublication s).leu.published.map Publication.estimate

/-- The reference at 500 and at 499 cm/s, and without a valid v_ref. -/
theorem witness_EstimatePublished :
    (sampled on 3000 3000).operating = true ∧ (sampled on 3000 3000).leu.work = .ordinary
      ∧ (on.setLeu { on.leu with work := .sensorWait }).leu.work = .sensorWait
      ∧ (shown (sampled on 500 500)).map EstimateRecord.refKind = some .yaw
      ∧ (shown (sampled on 499 499)).map EstimateRecord.refKind = some .gravity
      ∧ (let s := sampled on 500 500
         (shown (s.setSif { s.sif with sample := { s.sif.sample with vRefValid := false } })).map
            (fun r => (r.refKind, r.refLean)) = some (.none, 0)) := by decide +kernel

/-- A computation in flight in a confidence state with its counts. -/
def estimating (conf : Confidence) (good coast : Nat) : State :=
  let s := sampled on 3000 3000
  s.setLeu { s.leu with conf := conf, good := good, coast := coast }

/-- A computation in flight with a U, an invalid run, and the sample's two flags. -/
def doubtful (conf : Confidence) (u run : Nat) (imu vref : Bool) : State :=
  let s := estimating conf 0 0
  (s.setLeu { s.leu with u := u }).setSif { s.sif with
    invalidRun := run, sample := { s.sif.sample with imuValid := imu, vRefValid := vref } }

/-- The confidence a publication leaves. -/
def confidence (s : State) : Confidence := (after .estimatePublication s).leu.conf

/-- Invalid runs of 2 and 3; each flag; U at 2994 and 2995, which five more take to the limit. -/
theorem witness_TrackingBlends :
    (doubtful .tracking 100 2 true true).operating = true ∧ (doubtful .tracking 100 2 true true).leu.work = .ordinary
      ∧ [doubtful .tracking 100 2 true true, doubtful .tracking 100 2 false false, doubtful .tracking 100 3 false true,
          doubtful .drifting 100 3 false true, doubtful .tracking 100 2 true false, doubtful .drifting 2994 2 true false,
          doubtful .drifting 2995 2 false false, doubtful .drifting 100 2 true true].map confidence
        = [.tracking, .tracking, .coasting, .coasting, .drifting, .drifting, .lost, .settling] := by decide +kernel
/-- SETTLING at 249 and 248 good cycles and at a run of 3; COASTING at its 125th and 124th, and at a third good one; UNSET
and LOST with and without the good one they wait for. -/
theorem witness_CountedEstimates :
    (estimating .settling 249 0).operating = true ∧ (estimating .settling 249 0).leu.work = .ordinary
      ∧ [estimating .settling 249 0, estimating .settling 248 0, doubtful .settling 500 3 false true,
          estimating .coasting 1 124, estimating .coasting 1 123, estimating .coasting 2 124,
          estimating .unset 0 0, doubtful .unset 6000 1 false true, estimating .lost 2 0, estimating .lost 1 0].map confidence
        = [.tracking, .settling, .unset, .lost, .coasting, .settling, .settling, .unset, .settling, .lost] := by
  decide +kernel

/-! ### The slip monitors -/

/-- REAR_SPIN in a state with a count, a publication in flight at v_ref 2000 and a rear speed. -/
def slipping (state : MonitorState) (count rear : Nat) : State :=
  watching (sampled on 2000 rear) .rearSpin state count

/-- What the publication in flight carries. -/
def published (s : State) : Publication := s.estimateStep.leu.published.getD corner

/-- The state REAR_SPIN takes at the publication in flight. -/
def taken (s : State) : MonitorState := ((after .estimatePublication s).monitor .rearSpin).state

/-- The same, its delay being 0. -/
def undelayed (s : State) : State :=
  s.setCst { s.cst with
    working := { s.cst.working with s1 := { s.cst.working.s1 with touring := { s.cst.working.s1.touring with delay := 0 } } } }

/-- Slips of 150 and 151 at the soft threshold, of 300 and 301 at the hard one; the last count and the one before; a delay
of 0; grace; and the trigger that waits with the drive grant's force. -/
theorem witness_SoftClampRuns :
    (let s := slipping .delaying 1 2302
     s.operating = true ∧ s.leu.work ≠ .idle ∧ s.estimateStep.leu.published = some (published s)
      ∧ s.idleCondition .rearSpin (published s) = false ∧ s.slipAt .rearSpin (published s) = some 151
      ∧ s.beyondSoft .rearSpin 151 = true ∧ s.beyondHard .rearSpin 151 = false)
    ∧ [slipping .delaying 1 2302, undelayed (slipping .armed 0 2302), slipping .delaying 2 2302, slipping .delaying 2 2300,
        slipping .armed 0 2302, slipping .idle 0 2300, slipping .armed 0 2602, slipping .armed 0 2600].map taken
      = [.soft, .soft, .delaying, .armed, .delaying, .armed, .hard, .delaying]
    ∧ [slipping .soft 1 2300, slipping .soft 2 2300, slipping .soft 2 2302, slipping .soft 2 2602,
        (slipping .soft 2 2302).setMonitor .rearSpin { Monitor.cold with state := .soft, count := 2, grace := true },
        slipping .blanking 1 2600, slipping .blanking 2 2600].map taken
      = [.blanking, .soft, .hard, .hard, .soft, .armed, .blanking]
    ∧ (after .estimatePublication (holding (slipping .delaying 1 2302) .eRearDrive (grant 900 900))).flu.triggers
      = [⟨.rearSpin, 900, 1⟩]
    ∧ (after .estimatePublication (holding (slipping .armed 0 2602) .eRearDrive (grant 900 900))).flu.triggers
      = [⟨.rearSpin, 900, 1⟩] := by decide +kernel
/-- REAR_SPIN in a state, a publication in flight at a speed of 299 or 300 cm/s. -/
def slow (vRef : Nat) (state : MonitorState) : State := watching (sampled on vRef vRef) .rearSpin state 1

/-- REAR_SPIN in HARD with a within-band count, at a rear speed. -/
def hard (within rear : Nat) : State :=
  (slipping .hard 0 rear).setMonitor .rearSpin { Monitor.cold with state := .hard, within := within }

/-- The IDLE condition and the bound at 299 and at 300 cm/s; HARD at its 250th and 249th publication within the band, and
at a slip of 151, outside; BLANKING at its last count and a slip of 300. -/
theorem witness_BlankingAndHardEnd :
    (let s := slow 299 .soft
     s.operating = true ∧ s.leu.work ≠ .idle ∧ s.estimateStep.leu.published = some (published s)
      ∧ s.idleCondition .rearSpin (published s) = true
      ∧ (s.estimateStep.monitor .rearSpin).bound = none ∧ (s.estimateStep.monitor .rearSpin).lastSlip = some 0)
    ∧ ((slow 300 .soft).estimateStep.monitor .rearSpin).bound.isSome = true
    ∧ [slow 299 .soft, slow 299 .armed, slow 299 .hard, slow 300 .soft, hard 249 2300, hard 248 2300, hard 249 2302,
        slipping .blanking 1 2600].map taken
      = [.idle, .idle, .hard, .blanking, .blanking, .hard, .hard, .armed]
    ∧ ((after .estimatePublication (hard 249 2302)).monitor .rearSpin).within = 0 := by decide +kernel

/-- REAR_LOCK armed with a bound and a running lock window over a rolling rear wheel. -/
def windowed : State :=
  (rolling on 3000 3000).setMonitor .rearLock
    { Monitor.cold with state := .armed, bound := some 2000, window := some 2100 }

/-- REAR_SPIN armed with a bound over a rolling rear wheel. -/
def bounded : State :=
  (rolling on 3000 3000).setMonitor .rearSpin { Monitor.cold with state := .armed, bound := some 2000 }

/-- REAR_LOCK's window running out over a brake grant, so many triggers waiting. -/
def lockedWith (waiting : Nat) : State :=
  let s := holding windowed .bRearBrake (grant 800 800)
  s.setFlu { s.flu with triggers := List.replicate waiting ⟨.frontLock, 1, 1⟩ }

/-- A lock monitor's bound at periods of 2001 and 2000, REAR_SPIN's at 1999 and 2000; the window afresh; a capture that
makes the wheel INVALID; five and six triggers waiting. -/
theorem witness_ImmediatePath :
    windowed.operating = true ∧ (windowed.monitor .rearLock).window = some 2100
      ∧ (windowed.monitor .rearLock).watching = true ∧ (windowed.wheel (MonitorName.wheel .rearLock)).state = .valid
      ∧ (windowed.wheel (MonitorName.wheel .rearLock)).lastEdge = some 100
      ∧ ((after (.toothCapture .rear 2101) windowed).monitor .rearLock).state = .hard
      ∧ ((after (.toothCapture .rear 2100) windowed).monitor .rearLock).state = .armed
      ∧ ((after (.toothCapture .rear 2100) windowed).monitor .rearLock).window = some 4100
      ∧ ((after (.toothCapture .rear 119) windowed).monitor .rearLock).state = .idle
      ∧ ((after (.toothCapture .rear 2099) bounded).monitor .rearSpin).state = .hard
      ∧ ((after (.toothCapture .rear 2100) bounded).monitor .rearSpin).state = .armed
      ∧ (after (.lockWindowExpiry .rearLock) (lockedWith 5)).flu.triggers.getLast? = some ⟨.rearLock, 800, 1⟩
      ∧ (after (.lockWindowExpiry .rearLock) (lockedWith 6)).flu = (lockedWith 6).flu := by decide +kernel
/-- A window that runs out in HARD; a capture inside the bound; SOFT taken to IDLE by an implausible period, its grant
RECOVERING. -/
theorem witness_ImmediatePath_quiet :
    (let s := windowed.setMonitor .rearLock { windowed.monitor .rearLock with state := .hard }
     (s.monitor .rearLock).window = some 2100 ∧ (s.monitor .rearLock).watching = false
      ∧ ((after (.lockWindowExpiry .rearLock) s).monitor .rearLock).window = none
      ∧ ((after (.toothCapture .rear 2101) s).monitor .rearLock).trigger = (s.monitor .rearLock).trigger)
    ∧ (let s := holding (windowed.setMonitor .rearLock { windowed.monitor .rearLock with state := .soft, count := 3 })
        .bRearBrake (grant 800 500)
       (after (.toothCapture .rear 2100) s).flu = s.flu
        ∧ ((after (.toothCapture .rear 2100) s).monitor .rearLock).count = 3
        ∧ (after (.toothCapture .rear 119) s).grant .bRearBrake = some { grant 800 500 with recovering := true }
        ∧ ((after (.toothCapture .rear 119) s).monitor .rearLock).count = 0) := by decide +kernel
/-- A CLAMP_CLEAR from Port E for a monitor's code, REAR_SPIN in a state with a last slip. -/
def clearing (code : Byte) (state : MonitorState) (slip : Option Int) : State :=
  (asked .e .clampClear [code]).setMonitor .rearSpin { Monitor.cold with state := state, lastSlip := slip }

/-- A CLAMP_CLEAR for REAR_SPIN from Port E at slips of 150, 151 and none, for a monitor in no clamp, one that Port E may
not clear, one without a code; a SHIFT_NOTICE in RUNNING and in SENSOR_WAIT. -/
theorem witness_MonitorRequests :
    (let s := clearing 0 .hard (some 150)
     s.running = true ∧ s.served .e .clampClear = some ⟨.clampClear, [0]⟩ ∧ monitorOfCode 0 = some .rearSpin
      ∧ MonitorName.clearedFrom .rearSpin .e = true ∧ (s.monitor .rearSpin).state = .hard
      ∧ (s.monitor .rearSpin).lastSlip = some 150 ∧ s.insideSoft 150 = true)
    ∧ (clearing 0 .hard (some 151)).clampClearCode .e ⟨.clampClear, [0]⟩ = .slipPresent
    ∧ (clearing 0 .hard none).clampClearCode .e ⟨.clampClear, [0]⟩ = .slipPresent
    ∧ (clearing 0 .soft (some 0)).clampClearCode .e ⟨.clampClear, [0]⟩ = .notHeld
    ∧ (clearing 2 .hard (some 0)).clampClearCode .e ⟨.clampClear, [2]⟩ = .notPermitted
    ∧ (clearing 3 .hard (some 0)).clampClearCode .e ⟨.clampClear, [3]⟩ = .badField
    ∧ (asked .e .shiftNotice []).served .e .shiftNotice = some ⟨.shiftNotice, []⟩
    ∧ (let s := waitingFor (asked .e .shiftNotice [])
       s.operating = true ∧ s.running = false ∧ s.served .e .shiftNotice = some ⟨.shiftNotice, []⟩
        ∧ (waitingFor (clearing 0 .hard (some 0))).clampClearCode .e ⟨.clampClear, [0]⟩ = .notReady) := by decide +kernel

/-! ### Budgets and grants -/

theorem witness_BudgetPublished :
    budgeting.operating = true ∧ budgeting.gbu.working = true ∧ budgeting.leu.published = some corner
      ∧ budgeting.learningKept = true
      ∧ (after .budgetPublication budgeting).gbu.publication.isSome = true := by decide +kernel
/-- The pending profile SPIRITED, of a kind, in the ride settings. -/
def pendingSpirited (s : State) (kind : PendingKind) : State :=
  s.setGbu { s.gbu with settings := { s.gbu.settings with pending := some ⟨.spirited, kind⟩ } }

/-- Eight events of contributions 500 to 507, the highest last. -/
def eight : List SlipEvent := (List.range 8).map fun n => ⟨500 + n, 0⟩

/-- A DEFERRED profile stays while v_ref is above 0 and the drive grant holds force; without the grant it is taken; one set
after the read waits. A trigger of this epoch leaves as an event, one of the next stays. A ninth event below and at the
highest contribution. -/
theorem witness_BudgetStages :
    (let s := pendingSpirited budgeting .deferred
     (after .budgetPublication s).gbu.settings.profile = .spirited
      ∧ (after .budgetPublication (holding s .eRearDrive (grant 900 1))).gbu.settings.profile = .touring)
    ∧ (let s := pendingSpirited (budgeting.setGbu { budgeting.gbu with read := some budgeting.gbu.settings }) .next
       (after .budgetPublication s).gbu.settings.profile = .touring
        ∧ (after .budgetPublication s).gbu.settings.pending = some ⟨.spirited, .next⟩)
    ∧ (let t := after .budgetPublication (budgeting.setFlu { budgeting.flu with
          triggers := [⟨.rearSpin, 2000, 7⟩, ⟨.frontLock, 1, 8⟩] })
       t.flu.triggers = [⟨.frontLock, 1, 8⟩] ∧ t.flu.events.length = 1)
    ∧ offerEvent 250 eight ⟨506, 0⟩ = eight.dropLast ++ [⟨506, 0⟩] ∧ offerEvent 250 eight ⟨507, 0⟩ = eight
    ∧ budgeting.learningKept = true := by decide +kernel
/-- A PROFILE_SET accepted after a computation's read; fields at and beyond their last codes; a class change at 0 and at
1 cm/s; outside RUNNING. -/
theorem witness_ProfileSetServed :
    (let s := asked .c .profileSet [2, 0, 0xFF]
     s.operating = true ∧ s.served .c .profileSet = some ⟨.profileSet, [2, 0, 0xFF]⟩
      ∧ s.profileRefusal ⟨.profileSet, [2, 0, 0xFF]⟩ = none ∧ profileOfCode 2 = some .spirited
      ∧ ((s.setGbu { s.gbu with working := true }).profileSetAt true ⟨.profileSet, [2, 0, 0xFF]⟩).gbu.read
        = some s.gbu.settings
      ∧ ((s.setGbu { s.gbu with working := true }).profileSetAt false ⟨.profileSet, [2, 0, 0xFF]⟩).gbu.read = none
      ∧ (after .profileSet s).gbu.settings.pending = some ⟨.spirited, .next⟩
      ∧ s.profileRefusal ⟨.profileSet, [3, 0, 0xFF]⟩ = some .badField
      ∧ s.profileRefusal ⟨.profileSet, [2, 3, 2]⟩ = none ∧ s.profileRefusal ⟨.profileSet, [2, 4, 0xFF]⟩ = some .badField
      ∧ s.profileRefusal ⟨.profileSet, [2, 0xFF, 3]⟩ = some .badField
      ∧ (s.setSif { s.sif with vRef := 1 }).profileRefusal ⟨.profileSet, [2, 1, 0xFF]⟩ = some .notStandstill
      ∧ (waitingFor s).profileRefusal ⟨.profileSet, [2, 0, 0xFF]⟩ = some .notReady) := by decide +kernel

/-- Both ports wait at the free engine, with the urgencies given. -/
def contending (e b : Byte) : State :=
  (on.setPort .e (serving ⟨.grantRequest, [1, 0, 3, 0x84, e]⟩)).setPort .b
    (serving ⟨.grantRequest, [1, 1, 3, 0x20, b]⟩)

/-- A waiting re-evaluation; an URGENT request against the pointer; equals by the pointer. -/
theorem witness_ServiceTaken :
    (contending 0 1).operating = true ∧ (contending 0 1).gre.engine = .free ∧ (contending 0 1).gre.waiting = none
      ∧ (contending 0 1).waitingRequest .b = some ⟨.grantRequest, [1, 1, 3, 0x20, 1]⟩
      ∧ (contending 0 1).waitingRequest .e = some ⟨.grantRequest, [1, 0, 3, 0x84, 0]⟩
      ∧ (after .greServiceTake (contending 0 1)).gre.engine = .request .b
      ∧ (after .greServiceTake (contending 1 1)).gre.engine = .request .e
      ∧ (after .budgetPublication budgeting).gre.waiting.isSome = true
      ∧ (after .budgetPublication budgeting).gre.engine = .free := by decide +kernel
/-- An UNCONFIRMED grant at countdown 1. -/
theorem witness_ReevaluationCompletes :
    let s := holding (on.setGre { on.gre with engine := .reevaluation }) .bRearBrake
      { grant 800 800 with confirmation := .unconfirmed 1 .linkLost 800 }
    s.operating = true ∧ s.gre.engine = .reevaluation
      ∧ (s.grant .bRearBrake).map Grant.confirmation = some (.unconfirmed 1 .linkLost 800)
      ∧ (after .reevaluationCompletion s).grant .bRearBrake = none := by decide +kernel
/-- Countdowns and caps: one at 2, one in SOFT at a cap of 500, one RECOVERING from a ramp base of 900. -/
theorem witness_ReevaluationCompletes_caps :
    let s := cornered (on.setGre { on.gre with engine := .reevaluation })
    let t := holding (holding (holding s .eRearDrive { grant 1900 900 with recovering := true })
      .bFrontBrake { grant 900 900 with confirmation := .unconfirmed 2 .carried 700 })
      .bRearBrake (grant 800 800)
    let u := t.setMonitor .rearLock { Monitor.cold with state := .soft, count := 9, cap := ⟨none, none, none, some 500⟩ }
    (after .reevaluationCompletion { u with gre := { u.gre with budget := ⟨⟨1432, 3000⟩, 7, 900⟩ } }).gre.grants.get .eRearDrive
        = some { grant 1900 1000 with recovering := true }
      ∧ ((after .reevaluationCompletion u).grant .bFrontBrake).map (fun g => (g.granted, g.confirmation))
        = some (700, .unconfirmed 1 .carried 700)
      ∧ ((after .reevaluationCompletion u).grant .bRearBrake).map Grant.granted = some 500 := by decide +kernel
theorem witness_FrontShare :
    (∃ g, (holding on .bFrontBrake (grant 900 0)).grant .bFrontBrake = some g) ∧ on.grant .bFrontBrake = none :=
  ⟨⟨_, rfl⟩, rfl⟩
/-- Requests that fill the rear budget exactly, and one newton more. -/
theorem witness_Shares :
    let s (policy : Policy) (rear : Nat) : State := on.setGre { on.gre with
      grants := ⟨some (grant 900 0), some (grant 300 0), none, some (grant 1200 0)⟩
      policy := policy
      budget := ⟨⟨0, rear⟩, 0, 0⟩ }
    (s .brakeFirst 1500).gre.policy = .brakeFirst ∧ (s .brakeFirst 1500).share .eRearDrive = 0
      ∧ (s .brakeFirst 1499).share .bRearBrake = 1199
      ∧ (s .proportional 2400).share .eRearDrive = 900 ∧ (s .proportional 2399).gre.budget.force.rear
        < (s .proportional 2399).rearRequests
      ∧ (s .fixedSplit 2400).gre.policy = .fixedSplit ∧ (s .fixedSplit 2400).share .eRearDrive = 900 := by
  decide +kernel
/-- A request for 800 N of rear brake that cuts the drive grant, at urgency 1. -/
theorem witness_GrantRequestServed :
    let r : Request := ⟨.grantRequest, [1, 1, 7, 0xD0, 1]⟩
    let s := arrival .b .grantRequest [1, 1, 7, 0xD0, 1]
    s.running = true ∧ s.inService .grantRequest = some (.b, r) ∧ r.named .b = .key .bRearBrake ∧ r.byte 4 ≤ 1
      ∧ (after .grantRequest s).grantedForce .eRearDrive = some 0
      ∧ (after .grantRequest s).grantedForce .bRearBrake = some 1914 := by decide +kernel
/-- A resize of the drive grant of 900 N to 2000 N: one ramp of 100 N, from a ramp base that stands. -/
theorem witness_GrantRequestServed_resize :
    let r : Request := ⟨.grantRequest, [1, 0, 7, 0xD0, 0]⟩
    let s := arrival .e .grantRequest [1, 0, 7, 0xD0, 0]
    s.running = true ∧ s.inService .grantRequest = some (.e, r) ∧ r.named .e = .key .eRearDrive
      ∧ s.grant .eRearDrive = some (grant 900 900)
      ∧ ((after .grantRequest s).grant .eRearDrive).map Grant.granted = some 1000
      ∧ ((after .grantRequest s).grant .eRearDrive).map Grant.rampBase = some 900 := by decide +kernel
/-- Out of RUNNING; a direction without a code; urgency 2; a foreign key; a key not held. -/
theorem witness_GrantRequestsRefused :
    (let s := arrival .e .grantRequest [1, 0, 0, 1, 0]
     let waiting := s.setSup { s.sup with start := .sensorWait }
     waiting.operating = true ∧ waiting.running = false
      ∧ waiting.inService .grantRequest = some (.e, ⟨.grantRequest, [1, 0, 0, 1, 0]⟩))
    ∧ Request.named ⟨.grantRequest, [1, 2, 0, 1, 0]⟩ .e = .bad ∧ 1 < Request.byte ⟨.grantRequest, [1, 0, 0, 1, 2]⟩ 4
    ∧ Request.named ⟨.grantRequest, [0, 1, 0, 1, 0]⟩ .e = .foreign
    ∧ (let s := arrival .e .grantRelease [1, 1]
       s.inService .grantRelease = some (.e, ⟨.grantRelease, [1, 1]⟩)
        ∧ Request.named ⟨.grantRelease, [1, 1]⟩ .e = .key .eRearBrake ∧ s.grant .eRearBrake = none) := by
  decide +kernel
theorem witness_GrantReleased :
    let s := arrival .e .grantRelease [1, 0]
    s.running = true ∧ s.inService .grantRelease = some (.e, ⟨.grantRelease, [1, 0]⟩)
      ∧ Request.named ⟨.grantRelease, [1, 0]⟩ .e = .key .eRearDrive ∧ s.grant .eRearDrive = some (grant 900 900) := by
  decide +kernel
/-- A report of 901 N against 900 N granted; one for a key not held. -/
theorem witness_UseReported :
    (let s := arrival .e .useReport [1, 0, 3, 0x85]
     s.running = true ∧ s.inService .useReport = some (.e, ⟨.useReport, [1, 0, 3, 0x85]⟩)
      ∧ s.grant .eRearDrive = some (grant 900 900)
      ∧ ((after .useReport s).grant .eRearDrive).map Grant.overuse = some true)
    ∧ (let s := arrival .e .useReport [1, 1, 0, 0]
       s.inService .useReport = some (.e, ⟨.useReport, [1, 1, 0, 0]⟩)
        ∧ Request.named ⟨.useReport, [1, 1, 0, 0]⟩ .e = .key .eRearBrake ∧ s.grant .eRearBrake = none) := by
  decide +kernel

/-! ### Lines and links -/

theorem witness_LinePulses :
    on.operating = true ∧ (on.line .cld).timer = some 0 ∧ (on.line .cld).high = true ∧ 0 ≤ (on.line .cld).current := by
  decide
/-- The period timer at 49 and at the current code of 50 while the level is high, and at 50 while it is low. -/
theorem witness_LinePulses_tick :
    let at_ (n : Nat) (high : Bool) : State := on.setLine .cld { on.line .cld with timer := some n, high := high }
    (at_ 49 true).pending = [] ∧ (on.line .cld).current = 50
      ∧ [at_ 49 true, at_ 50 true, at_ 50 false, at_ 999 false].map (fun s => (s.tick.line .cld).timer)
        = [some 50, some 50, some 51, some 999] := by decide
/-- R132, R133: at a current code of 500 a rise to 900, a fall to 300 with the timer at 299 and at 300. -/
theorem witness_LinePulses_delivery :
    let l (n : Nat) : CeilingLine := ⟨500, 500, some 500, some n, 1000, true⟩
    (l 299).deliver (some 1000) = { l 299 with carried := some 1000, preset := 900 }
      ∧ (l 299).deliver (some 250) = { l 299 with carried := some 250, current := 300, preset := 300 }
      ∧ (l 300).deliver (some 250) = { l 300 with carried := some 250, current := 300, preset := 300, high := false } := by
  decide
theorem witness_CodeEncodesForce : 1000 ≤ 1000 ∧ 1000 ≤ 20000 ∧ 999 ≤ 1000 ∧ targetCode 1000 (some 1000) = 900
    ∧ encodedForce 1000 (targetCode 1000 (some 999)) = 998 := by decide

/-- RUNNING with a receiver at Port C. -/
def hearing (r : Receiver) : State := on.setPort .c { Port.start with receiver := r }

/-- READY; HUNTING after 40 and after 39 microseconds; ASSEMBLING after 20 and after 21. -/
theorem witness_BytesAssemble :
    ((hearing ⟨.ready, [], 0, false, 40⟩).port .c).receiver.state = .ready
      ∧ 30 ≤ ((hearing ⟨.hunting, [], 0, false, 40⟩).port .c).receiver.gap
      ∧ ((hearing ⟨.hunting, [], 0, false, 39⟩).port .c).receiver.gap < 30
      ∧ ((hearing ⟨.assembling, [1], 1, false, 20⟩).port .c).receiver.gap ≤ 10
      ∧ 10 < ((hearing ⟨.assembling, [1], 1, false, 21⟩).port .c).receiver.gap
      ∧ (hearing ⟨.ready, [], 0, false, 40⟩).operating = true := by decide
/-- A stop fault, too few bytes, a wrong check byte, no kind, a wrong length, no right. -/
theorem witness_BadFrameCounted :
    (hearing ⟨.assembling, [0x61, 0, 0x3B], 3, true, 0⟩).operating = true
      ∧ [0x61, 0x3B].getLast? = some (checkByte [0x61]) ∧ [0x61, 0, 0x3B].getLast? = some (checkByte [0x61, 0])
      ∧ [(0x61 : Byte), 0, 0x3C].getLast? ≠ some (checkByte [0x61, 0]) ∧ kindOfCode 0x62 = none
      ∧ MessageKind.accepts .linkHold 1 = false ∧ PortName.mayReceive .c .shiftNotice = false
      ∧ ((after (.frameReceived .c) (hearing ⟨.assembling, [0x61, 0, 0x3C], 3, false, 0⟩)).port .c).badFrames = 1
      ∧ ((after (.frameReceived .c) (hearing ⟨.assembling, [0x61, 0, 0x3B], 3, false, 0⟩)).port .c).badFrames = 0 := by
  decide +kernel
/-- A CHECK_TEST with a wrong check byte is valid as no request. -/
theorem witness_BadFrameCounted_invalid (q : Request) :
    ¬((hearing ⟨.assembling, [0x60, 1, 8, 0x34], 4, false, 0⟩).port .c).receiver.validAs .c q := by
  rw [← Receiver.judge_iff]
  exact fun h => nomatch ((by decide +kernel : _ = none).symm.trans h)
/-- A CHECK_TEST of 8 received whole, to a free queue and to a full one; a LINK_HOLD received, and one at a resting line. -/
theorem witness_ValidFrameArrives :
    (let s := hearing ⟨.assembling, [0x60, 1, 8, 0x33], 4, false, 0⟩
     s.operating = true ∧ (s.port .c).receiver.state = .assembling
      ∧ (s.port .c).receiver.validAs .c ⟨.checkTest, [8]⟩
      ∧ ((after (.frameReceived .c) s).port .c).queue = [⟨.checkTest, [8]⟩]
      ∧ ((after (.frameReceived .c) (s.setPort .c { s.port .c with
        queue := List.replicate 4 ⟨.calRead, [0, 0, 1]⟩ })).port .c).discards = 1)
    ∧ (let s := hearing ⟨.assembling, [0x61, 0, 0x3B], 3, false, 0⟩
       (s.port .c).receiver.validAs .c ⟨.linkHold, []⟩
        ∧ ((after (.frameReceived .c) s).port .c).queue = [] ∧ ((after (.linkHold .c) s).port .c).state = .up)
    ∧ (on.port .c).receiver.state ≠ .assembling := by decide +kernel
theorem witness_CheckTestServed :
    (asked .c .checkTest [8]).operating = true ∧ (asked .c .checkTest [8]).served .c .checkTest = some ⟨.checkTest, [8]⟩
      ∧ (asked .c .checkTest [9]).served .c .checkTest = some ⟨.checkTest, [9]⟩
      ∧ ({ Port.start with state := .up, replies := [⟨⟨.checkTest, .ok, []⟩, false⟩] } : Port).transmitter = .free := by
  decide +kernel

/-- A port whose transmitter rests in its gap. -/
def resting (x : Port) : State := on.setPort .b { x with transmitter := .gap }

/-- Nothing waits; both sorts wait, each having been sent last; a sending transmitter; a port that is DOWN. -/
theorem witness_TransmitterTakesTurns :
    ((resting Port.start).port .b).transmitter = .gap ∧ ((resting Port.start).port .b).replies = []
      ∧ ((after (.transmitGapExpiry .b) (resting { Port.start with
        state := .up, replies := [⟨⟨.checkTest, .ok, []⟩, false⟩], slot := some [0], lastSent := .reply })).port .b).lastSent = .status
      ∧ ((after (.transmitGapExpiry .b) (resting { Port.start with
        state := .up, replies := [⟨⟨.checkTest, .ok, []⟩, false⟩], slot := some [0], lastSent := .status })).port .b).lastSent = .reply
      ∧ ((after (.transmitGapExpiry .b) (resting { Port.start with
        replies := [⟨⟨.checkTest, .ok, []⟩, false⟩] })).port .b).replies = []
      ∧ ((after (.frameSent .b) (on.setPort .b { Port.start with transmitter := .sending .reply [] })).port .b).transmitter
        = .gap := by decide +kernel

/-- A port that is not UP with a reply and a STATUS waiting, STATUS sent last; a full reply queue a reply is taken from. -/
theorem witness_TransmitterTakesTurns_more :
    (let x := { Port.start with replies := [⟨⟨.checkTest, .ok, []⟩, true⟩], slot := some [0], lastSent := .status }
     ((after (.transmitGapExpiry .b) (resting x)).port .b).lastSent = .status
      ∧ ((after (.transmitGapExpiry .b) (resting x)).port .b).replies = [])
    ∧ (let x := { Port.start with
        state := .up, replies := List.replicate 4 ⟨⟨.checkTest, .ok, []⟩, false⟩, queue := [⟨.checkTest, [0]⟩] }
       x.mayHandOn = false ∧ ((after (.transmitGapExpiry .b) (resting x)).port .b).outstanding = true) := by decide +kernel
/-- R147: two requests and an answer: the second becomes the head, outstanding. -/
theorem test_answer_moves_queue :
    let x := { Port.start with state := .up, queue := [⟨.checkTest, [0]⟩, ⟨.checkTest, [1]⟩], outstanding := true }
    (x.answer ⟨.checkTest, .ok, []⟩).queue = [⟨.checkTest, [1]⟩] ∧ (x.answer ⟨.checkTest, .ok, []⟩).outstanding = true
      ∧ (x.answer ⟨.checkTest, .ok, []⟩).replies = [] := by decide +kernel
/-- A port that is not UP, whose transmitter rests in its gap, is handed a reply. -/
def away : Port := { Port.start with transmitter := .gap }.answer ⟨.calClose, .ok, []⟩
/-- R152, R195: the queue marks the reply; taken while the port is still not UP it is removed. -/
theorem test_away_reply :
    away.replies = [⟨⟨.calClose, .ok, []⟩, true⟩] ∧ ((after (.transmitGapExpiry .b) (resting away)).port .b).replies = [] := by
  decide +kernel
/-- R152, R195: Port C that comes UP holds the reply no longer; Port B does, and sends it when its transmitter takes it. -/
theorem test_away_reply_up :
    ((after (.linkHold .c) (on.setPort .c away)).port .c).replies = []
      ∧ ((after (.linkHold .b) (on.setPort .b away)).port .b).replies = [⟨⟨.calClose, .ok, []⟩, true⟩]
      ∧ ((after (.transmitGapExpiry .b) (after (.linkHold .b) (on.setPort .b away))).port .b).lastSent = .reply := by
  decide +kernel
/-- Port C comes UP by a CHECK_TEST while four replies handed over before wait: the request is handed on. -/
theorem witness_ValidFrameArrives_away :
    let s := on.setPort .c { Port.start with
      receiver := ⟨.assembling, [0x60, 1, 8, 0x33], 4, false, 0⟩, transmitter := .gap
      replies := List.replicate 4 ⟨⟨.calClose, .ok, []⟩, true⟩ }
    (s.port .c).state ≠ .up ∧ (s.port .c).receiver.validAs .c ⟨.checkTest, [8]⟩
      ∧ ((after (.frameReceived .c) s).port .c).replies = [] ∧ ((after (.frameReceived .c) s).port .c).outstanding = true := by
  decide +kernel

/-! ### The calibration store -/

/-- The last result a command leaves. -/
def result (c : Instr) (s : State) : Option (MessageKind × ReplyCode) := (after c s).cst.last

/-- CAL_OPEN with the service input ASSERTED and RELEASED, at 0 and at 1 cm/s; CAL_CLOSE of an open and of a closed
session; a CAL_READ of 24 bytes that ends at byte 255, and one byte beyond; all three outside RUNNING. -/
theorem witness_SessionAndReads :
    (let s := asked .c .calOpen []
     let ready := s.setCst { s.cst with serviceAsserted := true }
     s.operating = true ∧ s.cst.operation = none ∧ s.served .c .calOpen = some ⟨.calOpen, []⟩
      ∧ (after .calOpen s).cst.session = .closed ∧ (after .calOpen ready).cst.session = .opened
      ∧ result .calOpen (ready.setSif { s.sif with vRef := 1 }) = some (.calOpen, .notStandstill)
      ∧ result .calOpen (waitingFor ready) = some (.calOpen, .notReady))
    ∧ (calibrating .calClose []).served .c .calClose = some ⟨.calClose, []⟩
    ∧ result .calClose (calibrating .calClose []) = some (.calClose, .ok)
    ∧ result .calClose (asked .c .calClose []) = some (.calClose, .noService)
    ∧ result .calClose (waitingFor (calibrating .calClose [])) = some (.calClose, .notReady)
    ∧ (calibrating .calRead [3, 232, 24]).served .c .calRead = some ⟨.calRead, [3, 232, 24]⟩
    ∧ result .calRead (calibrating .calRead [3, 232, 24]) = some (.calRead, .ok)
    ∧ result .calRead (calibrating .calRead [3, 233, 24]) = some (.calRead, .badField)
    ∧ result .calRead (asked .c .calRead [3, 232, 24]) = some (.calRead, .noService)
    ∧ result .calRead (waitingFor (calibrating .calRead [3, 233, 24])) = some (.calRead, .notReady) := by decide +kernel
/-- The last byte of a sector programmed, and one byte beyond; each check that refuses. -/
theorem witness_OperationsStart :
    (calibrating .calErase [2]).running = true ∧ (calibrating .calErase [2]).cst.session = .opened
      ∧ (calibrating .calErase [2]).served .c .calErase = some ⟨.calErase, [2]⟩ ∧ sectorOfCode 2 = some .s2
      ∧ (after .calErase (calibrating .calErase [2])).cst.operation = some ⟨.erase .s2, 20000⟩
      ∧ result .calErase (calibrating .calErase [3]) = some (.calErase, .badField)
      ∧ result .calErase (asked .c .calErase [2]) = some (.calErase, .noService)
      ∧ (let s := calibrating .calErase [2]
         result .calErase (s.setCst { s.cst with lock := .locked }) = some (.calErase, .locked))
      ∧ (after .calProgram (calibrating .calProgram [0, 255, 7])).cst.operation = some ⟨.program .s0 255 [7], 1000⟩
      ∧ result .calProgram (calibrating .calProgram [0, 255, 7, 7]) = some (.calProgram, .badField)
      ∧ (let s := calibrating .calProgram [0, 255, 7]
         result .calProgram (s.setCst { s.cst with flash := [⟨255, 0⟩] }) = some (.calProgram, .notErased)
          ∧ result .calProgram (s.setSup { s.sup with low := true }) = some (.calProgram, .lowSupply)
          ∧ result .calProgram (waitingFor s) = some (.calProgram, .notReady))
      ∧ (after .calLock (calibrating .calLock [])).cst.operation = some ⟨.lock, 1000⟩
      ∧ result .calLock (asked .c .calLock []) = some (.calLock, .noService)
      ∧ (after .calWipe (calibrating .calWipe [])).cst.operation = some ⟨.wipe 0 true, 80000⟩
      ∧ result .calWipe (waitingFor (calibrating .calWipe [])) = some (.calWipe, .notReady) := by decide +kernel
/-- A program that ends at byte 255, obeyed and not; a lock word that does not read back, and one that read 0x00 before,
in which the array can set no bit. -/
theorem witness_OperationsComplete :
    (operating .calErase (.erase .s3)).operating = true ∧ (operating .calErase (.erase .s3)).cst.flash.wf = true
      ∧ (after (.calProgramCompletion none) (operating .calProgram (.program .s2 254 [1, 2]))).cst.last
        = some (.calProgram, .ok)
      ∧ (after (.calProgramCompletion (some [1, 3])) (operating .calProgram (.program .s2 254 [1, 2]))).cst.last
        = some (.calProgram, .verifyFail)
      ∧ (after (.calLockCompletion none) (operating .calLock .lock)).cst.lock = .locked
      ∧ (after (.calLockCompletion (some [1])) (operating .calLock .lock)).cst.lock = .unlocked
      ∧ (let s := operating .calLock .lock
         let t := after (.calLockCompletion (some [0xFF])) (s.setCst { s.cst with flash := [⟨768, 0⟩] })
         t.cst.flash = [⟨768, 0⟩] ∧ t.cst.lock = .locked ∧ t.cst.last = some (.calLock, .ok)) := by decide +kernel
/-- The first and the last of the four sectors; the completion after them. -/
theorem witness_WipeErasesAll :
    (operating .calWipe (.wipe 0 true)).operating = true ∧ sectorOfCode 0 = some .s0 ∧ sectorOfCode 3 = some .s3
      ∧ (operating .calWipe (.wipe 0 true)).cst.flash.wf = true
      ∧ (∃ t, exec (.wipeSectorEraseCompletion none) (operating .calWipe (.wipe 3 true)) = .next t)
      ∧ (after (.calWipeCompletion none) (operating .calWipe (.wipe 4 false))).cst.last = some (.calWipe, .verifyFail)
      ∧ (after (.calWipeCompletion none) (operating .calWipe (.wipe 3 true))).cst.last = some (.calWipe, .ok) :=
  ⟨by decide, by decide, by decide, by decide, ⟨_, rfl⟩, by decide +kernel, by decide +kernel⟩
theorem witness_ServiceInputFiltered :
    (on.setCst { on.cst with serviceCount := 3 }).operating = true ∧ on.cst.serviceAsserted = false
      ∧ (after .svcAsserted (on.setCst { on.cst with serviceCount := 3 })).cst.serviceAsserted = true
      ∧ (after (.svcSample true) (on.setCst { on.cst with serviceCount := 2 })).cst.serviceAsserted = false
      ∧ (after .svcReleased (on.setCst { on.cst with serviceAsserted := true, serviceCount := 3 })).cst.serviceAsserted
        = false := by decide +kernel

/-! ### The supply supervisor -/

/-- Below 9.0 V by a millivolt, at it, above 9.3 V by a millivolt. -/
theorem witness_WarningComparator :
    (let s := on.setSup { on.sup with lowCount := 3 }
     s.operating = true ∧ s.sup.tripped = false ∧ s.sup.tripCount = 0 ∧ s.sup.level.millivolts = 9000
      ∧ (after (.lowSupplySet 8999) s).sup.low = true ∧ (after (.supplySample 9000) s).sup.low = false)
    ∧ (let s := on.setSup { on.sup with low := true, lowCount := 3 }
       (after (.lowSupplyClear 9301) s).sup.low = false ∧ (after (.supplySample 9300) s).sup.low = true
        ∧ (after (.supplySample 9300) s).sup.lowCount = 0) := by decide +kernel
/-- The supply-loss count: CLEAR at 5999 and 6000, TRIPPED and held at 6501 and 6500. -/
theorem witness_WarningComparator_loss :
    let s := on.setSup { on.sup with tripCount := 1 }
    let held := on.setSup { on.sup with start := .reset, tripped := true }
    on.sup.tripped = false ∧ on.sup.tripCount = 0 ∧ held.sup.tripCount = 0 ∧ held.operating = false
      ∧ (after (.supplySample 5999) on).sup.tripCount = 1 ∧ (after (.supplySample 6000) s).sup.tripCount = 0
      ∧ (after (.supplySample 6501) held).sup.tripCount = 1
      ∧ (after (.supplySample 6500) (held.setSup { held.sup with tripCount := 1 })).sup.tripCount = 0 := by decide +kernel
/-- A second sample at 5999 mV, the fourth below the warning level with it, and one at 6000; a rewrite cut short, and an
erase; a part held in OFF. -/
theorem witness_EntersReset :
    (let s := on.setSup { on.sup with tripCount := 1, lowCount := 3 }
     s.operating = true ∧ s.sup.tripped = false ∧ (after (.supplyLossTrip 5999) s).sup.start = .reset
      ∧ (after (.supplyLossTrip 5999) s).sup.low = true ∧ (after (.supplySample 6000) s).sup.start = .running)
    ∧ (let s := on.setSup { on.sup with
        record := ⟨some (record monitors), true, 5⟩, rewrite := some (record monitors) }
       (after .rstNAssert s).sup.record = ⟨none, false, 5⟩
        ∧ (after .rstNAssert (s.setSup { s.sup with rewrite := none })).sup.record = s.sup.record)
    ∧ FlashOperation.target (.erase .s2) = some .s2 ∧ (operating .calErase (.erase .s2)).cst.flash.wf = true
    ∧ (let s := on.setSup { on.sup with start := .off, ignHigh := false }
       s.operating = false ∧ (after .rstNAssert s).sup.start = .off) := by decide +kernel
/-- The fourth low sample and the third, at a part that operates and at one held in RESET; the ignition's return; the
retained domain's power-up at both. -/
theorem witness_IgnitionAndRetained :
    on.sup.ignHigh = true ∧ (after .ignitionOff (on.setSup { on.sup with ignCount := 3 })).sup.start = .off
      ∧ (after (.retainedMsTick false) (on.setSup { on.sup with ignCount := 2 })).sup.start = .running
      ∧ (let s := heldWith ⟨none, true, 5⟩ 7
         (after (.retainedMsTick false) (s.setSup { s.sup with ignCount := 3 })).sup.record.valid = false
          ∧ (after (.retainedMsTick false) (s.setSup { s.sup with ignCount := 2 })).sup.outage = 8
          ∧ (after .retainedDomainPowerUp s).sup.record = ⟨none, false, 5⟩)
      ∧ (after .retainedDomainPowerUp on).sup.start = .off
      ∧ (let s := State.reset.setSup { Sup.fresh with start := .off, ignHigh := false, ignCount := 3, tripped := true }
         s.sup.start = .off ∧ s.sup.ignHigh = false ∧ (after .ignitionOn s).sup.start = .reset) := by decide +kernel
/-- No valid mark; a clearing second sample at 6501 mV; the ignition's return. -/
theorem witness_ColdRelease :
    (heldWith ⟨none, false, 0⟩ 255).sup.start = .reset ∧ (heldWith ⟨none, false, 0⟩ 255).sup.warmContents = none
      ∧ (let s := State.reset.setSup { Sup.fresh with start := .reset, tripped := true, tripCount := 1 }
         (after (.supplyLossClear 6501) s).sup.start = .loading ∧ (after (.supplySample 6500) s).sup.start = .reset)
      ∧ (let s := State.reset.setSup { Sup.fresh with start := .off, ignHigh := false, ignCount := 3 }
         (after .ignitionOn s).sup.start = .loading) := by decide +kernel

/-- The record with a profile code, a class code and a policy code of their own. -/
def recordOf (profile cls policy : Nat) : RecordContents :=
  { record monitors with settings := ⟨profile, some (profile, .deferred), cls, policy⟩ }

/-- A valid mark, a check word that matches, a counter of 200; at the reset line, and at a sample of 6501 mV. -/
theorem witness_WarmRelease :
    (heldWith ⟨some (record monitors), true, recordCheck (record monitors)⟩ 200).sup.warmContents
        = some (record monitors)
      ∧ (let s := heldWith ⟨some (record monitors), true, recordCheck (record monitors)⟩ 200
         let dipped := s.setSup { s.sup with rstLow := false, tripped := true, tripCount := 1 }
         dipped.sup.start = .reset ∧ dipped.sup.warmContents = some (record monitors)) := by
  simp [heldWith, Sup.warmContents, State.setSup]
/-- The last codes of their enumerations, and one beyond. -/
theorem witness_RestoredSettings :
    (recordOf 2 3 2).settings.restored = ⟨.spirited, some ⟨.spirited, .deferred⟩, .pillionLaden, .fixedSplit⟩
      ∧ (recordOf 3 4 3).settings.restored = ⟨.touring, some ⟨.touring, .deferred⟩, .solo, .brakeFirst⟩ := by decide
/-- HARD is carried with its trigger kind, and SOFT's grant RECOVERING; U at 6000 and below. -/
theorem witness_WarmStart :
    let t := (heldWith ⟨none, false, 0⟩ 60).releaseWarm (record monitors)
    (t.monitor .frontLock).trigger = .immediate ∧ (t.monitor .rearLock).state = .idle
      ∧ (t.grant .bRearBrake).map Grant.recovering = some true ∧ t.leu.conf = .settling ∧ t.leu.u = 875
      ∧ ((heldWith ⟨none, false, 0⟩ 60).releaseWarm { record monitors with u := 6000 }).leu.conf = .unset := by
  decide +kernel
/-- At a counter of 201 the same record gives a cold start. -/
theorem witness_WarmRelease_late :
    (heldWith ⟨some (record monitors), true, recordCheck (record monitors)⟩ 201).sup.warmContents = none := by
  simp [heldWith, Sup.warmContents, State.setSup]
theorem witness_LoadAndAfter :
    State.reset.sup.start = .loading ∧ (after .loadCompletion State.reset).sup.start = .sensorWait
      ∧ (after .sensorWaitExpiry (after .loadCompletion State.reset)).sup.start = .running
      ∧ (on.setSup { on.sup with rewrite := some (record monitors) }).operating = true := by decide +kernel
/-- A wheel with a latest period and one with none, at the load. -/
theorem witness_LoadAndAfter_wheels :
    let s := State.reset.setWheel .front ⟨.valid, 0, some 20000, some 20000, 5, some 0⟩
    s.sup.start = .loading ∧ (s.wheel .front).period = some 20000 ∧ (s.wheel .rear).period = none
      ∧ ((after .loadCompletion s).wheel .front).speed = 2010 * 100000 / (48 * 20000) := by decide +kernel

end Sys2Proof.Tests
end

section
/-! SUPPORT. Which operations leave the sensor interface, the lean estimation unit and the supervisor alone: one frame
lemma per shared operation, through one projection. -/
namespace Sys2Proof.Machine

/-- The three blocks in which the sensed values, the estimate and the retained record stand. -/
def State.senses (s : State) : Sif × Leu × Sup := (s.sif, s.leu, s.sup)

theorem State.senses_eq {s t : State} (hsif : t.sif = s.sif) (hleu : t.leu = s.leu) (hsup : t.sup = s.sup) :
    t.senses = s.senses := by
  simp only [State.senses, hsif, hleu, hsup]

theorem State.senses_eq_iff {s t : State} : t.senses = s.senses ↔ t.sif = s.sif ∧ t.leu = s.leu ∧ t.sup = s.sup := by
  simp only [State.senses, Prod.mk.injEq]

/-! ### The other blocks replaced -/

section
variable (s : State)

@[simp] theorem State.setGbu_senses (x : Gbu) : (s.setGbu x).senses = s.senses := rfl
@[simp] theorem State.setFlu_senses (x : Flu) : (s.setFlu x).senses = s.senses := rfl
@[simp] theorem State.setGre_senses (x : Gre) : (s.setGre x).senses = s.senses := rfl
@[simp] theorem State.setCst_senses (x : Cst) : (s.setCst x).senses = s.senses := rfl
@[simp] theorem State.setFreeCount_senses (x : Nat) : (s.setFreeCount x).senses = s.senses := rfl
@[simp] theorem State.setPending_senses (x : List Instr) : (s.setPending x).senses = s.senses := rfl
@[simp] theorem State.setPort_senses (p : PortName) (x : Port) : (s.setPort p x).senses = s.senses := rfl
@[simp] theorem State.setMonitor_senses (m : MonitorName) (x : Monitor) : (s.setMonitor m x).senses = s.senses := rfl
@[simp] theorem State.closeSession_senses : s.closeSession.senses = s.senses := rfl
@[simp] theorem State.freeEngine_senses : s.freeEngine.senses = s.senses := rfl
@[simp] theorem State.answer_senses (p : PortName) (r : Reply) : (s.answer p r).senses = s.senses := rfl
@[simp] theorem State.answerCode_senses (p : PortName) (kind : MessageKind) (code : ReplyCode) :
    (s.answerCode p kind code).senses = s.senses := rfl
@[simp] theorem State.answerCalibration_senses (kind : MessageKind) (code : ReplyCode) (rest : List Byte) :
    (s.answerCalibration kind code rest).senses = s.senses := rfl
@[simp] theorem State.finishService_senses (p : PortName) (r : Reply) : (s.finishService p r).senses = s.senses := rfl
@[simp] theorem State.finishSilently_senses (p : PortName) : (s.finishSilently p).senses = s.senses := rfl
@[simp] theorem State.queueStatus_senses : s.queueStatus.senses = s.senses := rfl
@[simp] theorem State.changeReceiver_senses (p : PortName) (f : Receiver → Receiver) :
    (s.changeReceiver p f).senses = s.senses := rfl

/-! ### Grants -/

@[simp] theorem State.writeGrant_senses (k : GrantKey) (g : Option Grant) : (s.writeGrant k g).senses = s.senses :=
  State.senses_eq (by simp) (by simp) (by simp)
@[simp] theorem State.changeGrant_senses (k : GrantKey) (f : Grant → Grant) : (s.changeGrant k f).senses = s.senses :=
  State.senses_eq (by simp) (by simp) (by simp)
@[simp] theorem State.changeGrants_senses (ks : List GrantKey) (f : GrantKey → Grant → Grant) :
    (s.changeGrants ks f).senses = s.senses :=
  State.senses_eq (by simp) (by simp) (by simp)
@[simp] theorem State.confirmGrants_senses (p : PortName) : (s.confirmGrants p).senses = s.senses :=
  s.changeGrants_senses _ _
@[simp] theorem State.freezeGrants_senses (p : PortName) : (s.freezeGrants p).senses = s.senses :=
  s.changeGrants_senses _ _
@[simp] theorem State.countDown_senses : s.countDown.senses = s.senses :=
  State.senses_eq (by simp) (by simp) (by simp)
@[simp] theorem State.reshare_senses : s.reshare.senses = s.senses := s.changeGrants_senses _ _

@[simp] theorem State.cutDrive_senses (c : Nat) : (s.cutDrive c).senses = s.senses := by
  unfold State.cutDrive; split <;> simp

@[simp] theorem State.grantWritten_senses (k : GrantKey) (n : Nat) : (s.grantWritten k n).senses = s.senses := by
  simp [State.grantWritten]

@[simp] theorem State.takeService_senses : s.takeService.senses = s.senses := by
  unfold State.takeService
  split
  · split <;> simp
  · rfl

@[simp] theorem State.serveGrantRequest_senses (h : Holder) (r : Request) :
    (s.serveGrantRequest h r).senses = s.senses := by
  unfold State.serveGrantRequest; split <;> simp

@[simp] theorem State.serveGrantRelease_senses (h : Holder) (r : Request) :
    (s.serveGrantRelease h r).senses = s.senses := by
  unfold State.serveGrantRelease
  split
  · split <;> simp
  · simp
  · simp

@[simp] theorem State.takeReport_senses (k : GrantKey) (n : Nat) : (s.takeReport k n).senses = s.senses := by
  unfold State.takeReport; split <;> simp

@[simp] theorem State.useReported_senses (h : Holder) (r : Request) : (s.useReported h r).senses = s.senses := by
  unfold State.useReported; split <;> simp

/-! ### Monitors -/

@[simp] theorem State.endClamp_senses (m : MonitorName) (x : Monitor) : (s.endClamp m x).senses = s.senses :=
  State.senses_eq (by simp) (by simp) (by simp)
@[simp] theorem State.triggerSoft_senses (m : MonitorName) (e : Word16) : (s.triggerSoft m e).senses = s.senses :=
  State.senses_eq (by simp) (by simp) (by simp)
@[simp] theorem State.triggerHard_senses (m : MonitorName) (kind : TriggerKind) (e : Word16) :
    (s.triggerHard m kind e).senses = s.senses :=
  State.senses_eq (by simp) (by simp) (by simp)
@[simp] theorem State.blankAfterClamp_senses (m : MonitorName) : (s.blankAfterClamp m).senses = s.senses :=
  s.endClamp_senses _ _

@[simp] theorem State.idleMonitor_senses (m : MonitorName) : (s.idleMonitor m).senses = s.senses := by
  unfold State.idleMonitor; split <;> simp

@[simp] theorem State.armedPublication_senses (m : MonitorName) (x : Int) (e : Word16) :
    (s.armedPublication m x e).senses = s.senses := by
  unfold State.armedPublication
  split
  · simp
  · split
    · split <;> simp
    · simp

@[simp] theorem State.delayingPublication_senses (m : MonitorName) (x : Int) (e : Word16) :
    (s.delayingPublication m x e).senses = s.senses := by
  unfold State.delayingPublication
  split
  · simp
  · split
    · split <;> simp
    · simp

@[simp] theorem State.softPublication_senses (m : MonitorName) (x : Int) (e : Word16) :
    (s.softPublication m x e).senses = s.senses := by
  unfold State.softPublication
  split
  · simp
  · split
    · simp
    · split <;> simp

@[simp] theorem State.hardPublication_senses (m : MonitorName) (x : Option Int) :
    (s.hardPublication m x).senses = s.senses := by
  unfold State.hardPublication; split <;> simp

@[simp] theorem State.blankingPublication_senses (m : MonitorName) (x : Int) (e : Word16) :
    (s.blankingPublication m x e).senses = s.senses := by
  unfold State.blankingPublication
  split
  · simp
  · split <;> simp

@[simp] theorem State.actOnPublication_senses (m : MonitorName) (p : Publication) :
    (s.actOnPublication m p).senses = s.senses := by
  unfold State.actOnPublication
  split
  · simp
  all_goals split <;> simp

@[simp] theorem State.monitorPublication_senses (p : Publication) (m : MonitorName) :
    (s.monitorPublication p m).senses = s.senses := by
  simp [State.monitorPublication]

@[simp] theorem State.monitorsPublication_senses (p : Publication) : (s.monitorsPublication p).senses = s.senses := by
  simp [State.monitorsPublication]

@[simp] theorem State.monitorCapture_senses (edge : Nat) (period : Option Nat) (seen : WheelState) (m : MonitorName) :
    (s.monitorCapture edge period seen m).senses = s.senses := by
  unfold State.monitorCapture
  split
  all_goals
    dsimp only
    split <;> simp

@[simp] theorem State.handOnCapture_senses (w : Wheel) (edge : Nat) (period : Option Nat) (seen : WheelState) :
    (s.handOnCapture w edge period seen).senses = s.senses := by
  unfold State.handOnCapture; split <;> simp

@[simp] theorem State.lockWindowExpires_senses (m : MonitorName) : (s.lockWindowExpires m).senses = s.senses := by
  unfold State.lockWindowExpires
  split
  · rfl
  · dsimp only; split <;> simp

@[simp] theorem State.clampCleared_senses (r : Request) : (s.clampCleared r).senses = s.senses := by
  unfold State.clampCleared; split <;> simp

@[simp] theorem State.serveClampClear_senses (p : PortName) (r : Request) : (s.serveClampClear p r).senses = s.senses := by
  unfold State.serveClampClear; split <;> simp

@[simp] theorem State.shiftNoticed_senses : s.shiftNoticed.senses = s.senses := by
  unfold State.shiftNoticed; split <;> simp

@[simp] theorem State.serveShiftNotice_senses : s.serveShiftNotice.senses = s.senses := by
  unfold State.serveShiftNotice; split <;> simp

/-! ### Ports -/

@[simp] theorem State.linkPresence_senses (p : PortName) : (s.linkPresence p).senses = s.senses := by
  unfold State.linkPresence; split <;> simp

@[simp] theorem State.arrive_senses (p : PortName) (r : Request) : (s.arrive p r).senses = s.senses := by
  unfold State.arrive
  dsimp only
  split <;> simp

@[simp] theorem State.endFrame_senses (p : PortName) : (s.endFrame p).senses = s.senses := by
  unfold State.endFrame
  dsimp only
  split <;> simp

@[simp] theorem State.byteArrives_senses (p : PortName) (byte : Byte) (fault : Bool) :
    (s.byteArrives p byte fault).senses = s.senses := by
  unfold State.byteArrives
  split
  · split <;> simp
  all_goals simp

@[simp] theorem State.frameEnds_senses (p : PortName) : (s.frameEnds p).senses = s.senses := by
  unfold State.frameEnds; split <;> simp

@[simp] theorem State.linkHeld_senses (p : PortName) : (s.linkHeld p).senses = s.senses := by
  unfold State.linkHeld; split <;> simp

@[simp] theorem State.serveCheckTest_senses (p : PortName) (r : Request) : (s.serveCheckTest p r).senses = s.senses := by
  unfold State.serveCheckTest; split <;> simp

/-! ### Budgets, ride settings, the store -/

@[simp] theorem State.publishBudget_senses : s.publishBudget.senses = s.senses := by
  unfold State.publishBudget
  split
  · split
    · rfl
    · unfold State.computeBudget
      dsimp only
      split <;> simp
  · rfl

@[simp] theorem State.serveProfileSet_senses (r : Request) : (s.serveProfileSet r).senses = s.senses := by
  unfold State.serveProfileSet; split <;> simp

@[simp] theorem State.profileSetServed_senses (r : Request) : (s.profileSetServed r).senses = s.senses := by
  simp [State.profileSetServed, State.profileSetAt]

@[simp] theorem State.sampleService_senses (high : Bool) : (s.sampleService high).senses = s.senses := by
  unfold State.sampleService
  dsimp only
  split <;> simp

@[simp] theorem State.serveOpen_senses : s.serveOpen.senses = s.senses := by
  unfold State.serveOpen; split <;> simp

theorem State.serveCalibration_senses (r : Request) {t : State} (ht : t.senses = s.senses) :
    (s.serveCalibration r t).senses = s.senses := by
  unfold State.serveCalibration
  split
  · simp
  · exact ht

@[simp] theorem State.eraseCompletes_senses (k : Sector) (left : ArrayLeft) :
    (s.eraseCompletes k left).senses = s.senses := by
  simp [State.eraseCompletes]

@[simp] theorem State.programCompletes_senses (k : Sector) (offset : Nat) (bytes : List Byte) (left : ArrayLeft) :
    (s.programCompletes k offset bytes left).senses = s.senses := by
  simp [State.programCompletes]

@[simp] theorem State.lockCompletes_senses (left : ArrayLeft) : (s.lockCompletes left).senses = s.senses := by
  simp [State.lockCompletes]

@[simp] theorem State.wipeNext_senses (left : ArrayLeft) : (s.wipeNext left).senses = s.senses := by
  unfold State.wipeNext
  split
  · split <;> simp
  all_goals rfl

@[simp] theorem State.wipeCompletes_senses : s.wipeCompletes.senses = s.senses := by
  unfold State.wipeCompletes
  split
  · split <;> simp
  all_goals rfl

end
end Sys2Proof.Machine
end

section
/-! SUPPORT. The ranges of the sensed values and of the estimate: what they say field by field, and that the arithmetic of
the sample path stays in them. -/
namespace Sys2Proof.Machine

/-! ### What the ranges say -/

@[simp] theorem within_iff (limit : Nat) (x : Int) : within limit x = true ↔ x.natAbs ≤ limit := by
  simp [within]

/-- The sensor interface's ranges, by name (R5, R9, R15). -/
structure Sif.InRange (x : Sif) : Prop where
  sample : x.sample.inertial.inRange = true
  lastValid : ∀ r, x.lastValid = some r → r.inRange = true
  invalidRun : x.invalidRun ≤ 255
  speed : ∀ w, (x.wheels.get w).speed ≤ 9000
  vRef : x.vRef ≤ 9000

/-- The lean estimation unit's ranges, by name (R24, R30, R31, R38). -/
structure Leu.InRange (x : Leu) : Prop where
  acc : x.acc.natAbs ≤ 6000000
  u_ge : 100 ≤ x.u
  u_le : x.u ≤ 6000
  aF : x.aF.natAbs ≤ 4000
  good : x.good ≤ 250
  coast : x.coast ≤ 124
  published : ∀ p, x.published = some p → p.estimate.inRange = true

/-- The accumulator of the retained record, and of the copy a rewrite writes, in its range (R30, R191). -/
def Sup.AccInRange (x : Sup) : Prop :=
  ∀ c, x.record.contents = some c ∨ x.rewrite = some c → c.acc.natAbs ≤ 6000000

theorem Sif.inRange_iff (x : Sif) : x.inRange = true ↔ x.InRange := by
  simp only [Sif.inRange, Bool.and_eq_true, decide_eq_true_eq, Option.all_eq_true]
  constructor
  · rintro ⟨⟨⟨⟨⟨hs, hl⟩, hi⟩, hf⟩, hr⟩, hv⟩
    exact ⟨hs, hl, hi, fun w => by cases w <;> assumption, hv⟩
  · rintro ⟨hs, hl, hi, hw, hv⟩
    exact ⟨⟨⟨⟨⟨hs, hl⟩, hi⟩, hw .front⟩, hw .rear⟩, hv⟩

theorem State.estimateInRange_iff (s : State) :
    s.estimateInRange = true ↔ s.sif.InRange ∧ s.leu.InRange ∧ s.sup.AccInRange := by
  simp only [State.estimateInRange, Sup.eachContents, Bool.and_eq_true, Sif.inRange_iff, within_iff,
    decide_eq_true_eq, Option.all_eq_true, Sup.AccInRange, or_imp, forall_and]
  constructor
  · rintro ⟨⟨⟨⟨⟨⟨⟨⟨hsif, hacc⟩, hu⟩, hu'⟩, haF⟩, hgood⟩, hcoast⟩, hpub⟩, hsup⟩
    exact ⟨hsif, ⟨hacc, hu, hu', haF, hgood, hcoast, hpub⟩, hsup⟩
  · rintro ⟨hsif, ⟨hacc, hu, hu', haF, hgood, hcoast, hpub⟩, hsup⟩
    exact ⟨⟨⟨⟨⟨⟨⟨⟨hsif, hacc⟩, hu⟩, hu'⟩, haF⟩, hgood⟩, hcoast⟩, hpub⟩, hsup⟩

theorem EstimateRecord.inRange_iff (r : EstimateRecord) :
    r.inRange = true ↔ r.lean.natAbs ≤ 6000 ∧ r.acc.natAbs ≤ 6000000 ∧ 100 ≤ r.u ∧ r.u ≤ 6000
      ∧ r.refLean.natAbs ≤ 6000 ∧ r.aF.natAbs ≤ 4000 := by
  simp [EstimateRecord.inRange, and_assoc]

theorem Inertial.natAbs_ax_le {r : Inertial} (h : r.inRange = true) : r.ax.natAbs ≤ 4000 := by
  simp only [Inertial.inRange, Bool.and_eq_true, within_iff] at h
  exact h.1.1.2

/-! ### The arithmetic of the sample path -/

theorem clampNat_le {lo hi : Nat} (h : lo ≤ hi) (x : Nat) : clampNat lo hi x ≤ hi := by
  unfold clampNat; split_ifs <;> omega

theorem clampNat_zero (hi x : Nat) : clampNat 0 hi x = min hi x := by
  unfold clampNat; split_ifs <;> omega

theorem natAbs_clampInt_le (limit : Nat) (x : Int) : (clampInt (-limit) limit x).natAbs ≤ limit := by
  unfold clampInt; split_ifs <;> omega

/-- R9: a wheel's speed, with the lower end of its clamp idle. -/
theorem wheelSpeed_eq (c : WorkingCopy) (w : Wheel) (n : Nat) :
    wheelSpeed c w n = min 9000 (c.circumference w * 100000 / (c.teeth w * n)) :=
  clampNat_zero _ _

theorem wheelSpeed_le (c : WorkingCopy) (w : Wheel) (n : Nat) : wheelSpeed c w n ≤ 9000 :=
  clampNat_le (Nat.zero_le _) _

/-- R5: the channels of a block are clamped into the sample's ranges. -/
theorem blockInertial_inRange (block : Vector Byte 16) : (blockInertial block).inRange = true := by
  simp only [Inertial.inRange, blockInertial, Bool.and_eq_true, within_iff]
  exact ⟨⟨⟨⟨⟨natAbs_clampInt_le 30000 _, natAbs_clampInt_le 30000 _⟩, natAbs_clampInt_le 30000 _⟩,
    natAbs_clampInt_le 4000 _⟩, natAbs_clampInt_le 4000 _⟩, natAbs_clampInt_le 4000 _⟩

/-- R24: a step of the filter goes toward the sample and not past it. -/
theorem natAbs_filterStep_le {aF ax : Int} (haF : aF.natAbs ≤ 4000) (hax : ax.natAbs ≤ 4000) :
    (filterStep aF ax).natAbs ≤ 4000 := by
  unfold filterStep truncated
  rw [Int.tdiv_eq_ediv, show Int.sign 8 = 1 from rfl]
  split <;> omega

theorem arctangentBits_le (ratio : Nat) : ∀ k n, n ≤ 6000 → arctangentBits ratio k n ≤ 6000 := by
  intro k
  induction k with
  | zero => intro n h; exact h
  | succ k ih =>
    intro n h
    unfold arctangentBits
    split
    · rename_i hstep
      simp only [Bool.and_eq_true, decide_eq_true_eq] at hstep
      exact ih _ hstep.1
    · exact ih _ h

theorem arctangentTable_le (ratio : Nat) : arctangentTable ratio ≤ 6000 := arctangentBits_le _ _ _ (Nat.zero_le _)

/-- R26 to R28: every kind of reference lies within 60 degrees. -/
theorem natAbs_referenceLean_le (c : WorkingCopy) (r : SampleRecord) : (referenceLean c r).natAbs ≤ 6000 := by
  unfold referenceLean
  split
  · unfold yawReference
    have := arctangentTable_le (yawRatio r.vRef (turningRate r.inertial.yaw r.inertial.pitch))
    split <;> omega
  · exact natAbs_clampInt_le 6000 _
  · decide

theorem natAbs_clampAcc_le (x : Int) : (clampAcc x).natAbs ≤ 6000000 := natAbs_clampInt_le 6000000 x

/-- R30: an accumulator in its range reports a lean in its range. -/
theorem natAbs_reportedLean_le {acc : Int} (h : acc.natAbs ≤ 6000000) : (reportedLean acc).natAbs ≤ 6000 := by
  unfold reportedLean rounded
  split <;> omega

/-! ### One computation of the estimate (R22) -/

theorem Leu.goodAfter_le (x : Leu) (r : SampleRecord) : x.goodAfter r ≤ 250 := by
  unfold Leu.goodAfter saturatingSucc; split <;> omega

/-- R25, R30, R36: the accumulator is clamped where it is computed, and else 0 or held. -/
theorem Leu.natAbs_accAfter_le {x : Leu} (h : x.acc.natAbs ≤ 6000000) (decided : Confidence) (r : SampleRecord)
    (refLean : Int) : (x.accAfter decided r refLean).natAbs ≤ 6000000 := by
  unfold Leu.accAfter
  split
  · exact natAbs_clampAcc_le _
  · split
    · decide
    · exact h

/-- R35, R38: U lies between its TRACKING value and 6000; where DRIFTING would take it past 3000 the state is LOST. -/
theorem Leu.finalUncertainty_bounds {x : Leu} (hlo : 100 ≤ x.u) (hhi : x.u ≤ 6000) (decided : Confidence)
    (r : SampleRecord) : 100 ≤ x.finalUncertainty decided r ∧ x.finalUncertainty decided r ≤ 6000 := by
  unfold Leu.finalUncertainty Leu.settled
  cases decided with
  | drifting =>
    simp only [Leu.uncertaintyAfter, true_and]
    by_cases hu : 3000 ≤ x.u + 5
    · simp [hu]
    · simp only [hu, if_false, reduceCtorEq]
      omega
  | settling =>
    simp only [Leu.uncertaintyAfter, reduceCtorEq, false_and, if_false]
    split_ifs <;> omega
  | unset => simp [Leu.uncertaintyAfter]
  | tracking => simp [Leu.uncertaintyAfter]
  | coasting => simp [Leu.uncertaintyAfter]; omega
  | lost => simp [Leu.uncertaintyAfter]

/-- R36: a computation that stays in COASTING has not counted its 125th cycle. -/
theorem Leu.coastAfter_le {x : Leu} {r : SampleRecord} {invalidRun : Nat} (h : x.coast ≤ 124)
    (hfinal : x.settled (x.decide r invalidRun) r = x.conf) : x.coastAfter ≤ 124 := by
  by_cases hc : x.conf = .coasting
  · by_contra hgt
    have hlost : 125 ≤ x.coastAfter := by omega
    have hne : x.decide r invalidRun ≠ .coasting ∧ x.decide r invalidRun ≠ .drifting := by
      simp only [Leu.decide, hc, hlost, if_true]
      split <;> simp
    simp only [Leu.settled, hne.2, false_and, if_false, hc] at hfinal
    exact hne.1 hfinal
  · simpa only [Leu.coastAfter, hc, if_false] using h

/-- The record of a computation done carries an estimate in its ranges. -/
theorem Leu.record_inRange {x : Leu} (h : x.InRange) (c : WorkingCopy) (r : SampleRecord) (sat : Bool) :
    (x.record c r sat).inRange = true := by
  rw [EstimateRecord.inRange_iff]
  exact ⟨natAbs_reportedLean_le h.acc, h.acc, h.u_ge, h.u_le, natAbs_referenceLean_le c r, h.aF⟩

theorem Leu.compute_inRange {x : Leu} (h : x.InRange) (c : WorkingCopy) {r : SampleRecord} (invalidRun : Nat)
    (hax : r.inertial.ax.natAbs ≤ 4000) : (x.compute c r invalidRun).InRange where
  acc := Leu.natAbs_accAfter_le h.acc _ _ _
  u_ge := (Leu.finalUncertainty_bounds h.u_ge h.u_le _ r).1
  u_le := (Leu.finalUncertainty_bounds h.u_ge h.u_le _ r).2
  aF := natAbs_filterStep_le h.aF hax
  good := by
    simp only [Leu.compute]
    split
    · exact x.goodAfter_le r
    · omega
  coast := by
    simp only [Leu.compute]
    split
    · exact Leu.coastAfter_le h.coast ‹_›
    · omega
  published := h.published

theorem Leu.computeWaiting_inRange {x : Leu} (h : x.InRange) {r : SampleRecord} (hax : r.inertial.ax.natAbs ≤ 4000) :
    (x.computeWaiting r).InRange :=
  { h with aF := natAbs_filterStep_le h.aF hax }

/-- A record in its ranges published by a unit in its ranges. -/
theorem Leu.InRange.withPublished {x : Leu} (h : x.InRange) {p : Publication} (hp : p.estimate.inRange = true) :
    ({ x with published := some p } : Leu).InRange :=
  { h with published := by rintro q ⟨⟩; exact hp }

theorem Leu.publish_inRange {x : Leu} (h : x.InRange) (c : WorkingCopy) {r : SampleRecord} (invalidRun : Nat)
    (hr : r.inertial.inRange = true) : (x.publish c r invalidRun).InRange := by
  have hax := Inertial.natAbs_ax_le hr
  unfold Leu.publish
  split
  · exact h
  · have hy := Leu.computeWaiting_inRange h hax
    exact hy.withPublished (Leu.record_inRange hy c r false)
  · have hy := Leu.compute_inRange h c invalidRun hax
    exact hy.withPublished (Leu.record_inRange hy c r _)

end Sys2Proof.Machine
end

section
/-! PROOF. O15: every command keeps the ranges of the samples and of the estimate. Most commands leave the three blocks that
the ranges speak of alone; each of the others keeps the ranges by a lemma about what it does. -/
namespace Sys2Proof

/-- The commands that may touch the sensor interface, the lean estimation unit or the supervisor. -/
def Instr.movesSenses : Instr → Bool
  | .cycleTimerExpiry | .transactionCompletion _ | .estimatePublication | .coastCountExpiry
  | .settlingGoodCountReached | .delayCountExpiry _ | .softHoldExpiry _ | .blankingExpiry _ | .hardAutoEnd _
  | .reevaluationCompletion | .grantCountdownExpiry _ | .retainedRewriteCompletion | .toothCapture _ _
  | .wheelRevalidated _ _ | .silenceExpiry _ | .silenceCountExpiry _ | .loadCompletion | .sensorWaitExpiry => true
  | c => c.isSupervision

end Sys2Proof

namespace Sys2Proof.Machine

/-! ### Outcomes -/

/-- Where an outcome goes on, it goes on in a state with the property. -/
def LeadsTo (P : State → Prop) (o : Host.Outcome State Fault Refusal) : Prop := ∀ t, o = .next t → P t

theorem leadsTo_go {P : State → Prop} {t : State} (h : P t) : LeadsTo P (go t) := by
  rintro u ⟨⟩; exact h

theorem State.whileOperating_keeps {P : State → Prop} {s t : State} (hs : P s) (ht : P t) :
    P (s.whileOperating t) := by
  unfold State.whileOperating; split <;> assumption

theorem leadsTo_occurring {P : State → Prop} {s t : State} {occurs : Bool} (hs : P s) (ht : P t) :
    LeadsTo P (occurring occurs t s) := by
  unfold occurring
  refine leadsTo_go ?_
  split <;> assumption

theorem leadsTo_operating {P : State → Prop} {s t : State} (hs : P s) (ht : P t) :
    LeadsTo P (go (s.whileOperating t)) :=
  leadsTo_go (State.whileOperating_keeps hs ht)

/-! ### The commands that sense nothing -/

theorem State.whileOperating_senses {s t : State} (h : t.senses = s.senses) :
    (s.whileOperating t).senses = s.senses := by
  unfold State.whileOperating; split
  · exact h
  · rfl

/-- A calibration request that the store serves, or none. -/
theorem leadsTo_serveCalibration {s : State} {kind : MessageKind} {carryOut : Request → State}
    (h : ∀ r, (carryOut r).senses = s.senses) :
    LeadsTo (fun t => t.senses = s.senses) (match s.calibrationServed kind with
      | none => go s
      | some r => go (s.whileOperating (s.serveCalibration r (carryOut r)))) := by
  split
  · exact leadsTo_go rfl
  · exact leadsTo_operating rfl (s.serveCalibration_senses _ (h _))

/-- Every command but those of `movesSenses` leaves the three blocks as they were. -/
theorem exec_senses (c : Instr) (s : State) (hc : c.movesSenses = false) :
    LeadsTo (fun t => t.senses = s.senses) (exec c s) := by
  cases c with
  | budgetPublication => exact leadsTo_operating rfl s.publishBudget_senses
  | greServiceTake => exact leadsTo_operating rfl s.takeService_senses
  | linePeriodStart l => exact leadsTo_operating rfl rfl
  | linePulseEnd l => exact leadsTo_operating rfl rfl
  | lockWindowExpiry m => exact leadsTo_operating rfl (s.lockWindowExpires_senses m)
  | receiveReadyExpiry p => exact leadsTo_operating rfl rfl
  | frameReceived p => exact leadsTo_operating rfl (s.frameEnds_senses p)
  | byteReceived p byte fault => exact leadsTo_operating rfl (s.byteArrives_senses p byte fault)
  | linkHold p => exact leadsTo_operating rfl (s.linkHeld_senses p)
  | transmitGapExpiry p => exact leadsTo_operating rfl rfl
  | frameSent p => exact leadsTo_operating rfl rfl
  | grantRequest =>
    simp only [exec, execGrantRequest]
    split
    · exact leadsTo_go rfl
    · exact leadsTo_operating rfl (s.serveGrantRequest_senses _ _)
  | grantRelease =>
    simp only [exec, execGrantRelease]
    split
    · exact leadsTo_go rfl
    · exact leadsTo_operating rfl (s.serveGrantRelease_senses _ _)
  | useReport =>
    simp only [exec, execUseReport]
    split
    · exact leadsTo_go rfl
    · exact leadsTo_operating rfl (by simp)
  | clampClear p =>
    simp only [exec, execClampClear]
    split
    · exact leadsTo_go rfl
    · exact leadsTo_operating rfl (s.serveClampClear_senses p _)
  | shiftNotice =>
    simp only [exec, execShiftNotice]
    split
    · exact leadsTo_go rfl
    · exact leadsTo_operating rfl s.serveShiftNotice_senses
  | profileSet =>
    simp only [exec, execProfileSet]
    split
    · exact leadsTo_go rfl
    · exact leadsTo_operating rfl (s.profileSetServed_senses _)
  | checkTest p =>
    simp only [exec, execCheckTest]
    split
    · exact leadsTo_go rfl
    · exact leadsTo_operating rfl (s.serveCheckTest_senses p _)
  | calOpen =>
    simp only [exec, execCalOpen]
    split
    · exact leadsTo_go rfl
    · exact leadsTo_operating rfl s.serveOpen_senses
  | calClose => exact leadsTo_serveCalibration fun _ => rfl
  | calRead => exact leadsTo_serveCalibration fun _ => rfl
  | calErase => exact leadsTo_serveCalibration fun _ => rfl
  | calProgram => exact leadsTo_serveCalibration fun _ => rfl
  | calLock => exact leadsTo_serveCalibration fun _ => rfl
  | calWipe => exact leadsTo_serveCalibration fun _ => rfl
  | calEraseCompletion left =>
    simp only [exec, execCalEraseCompletion]
    split
    · exact leadsTo_operating rfl (s.eraseCompletes_senses _ left)
    all_goals exact leadsTo_go rfl
  | calProgramCompletion left =>
    simp only [exec, execCalProgramCompletion]
    split
    · exact leadsTo_operating rfl (s.programCompletes_senses _ _ _ left)
    all_goals exact leadsTo_go rfl
  | calLockCompletion left =>
    simp only [exec, execCalLockCompletion]
    split
    · exact leadsTo_operating rfl (s.lockCompletes_senses left)
    all_goals exact leadsTo_go rfl
  | wipeSectorEraseCompletion left => exact leadsTo_operating rfl (s.wipeNext_senses left)
  | calWipeCompletion left =>
    refine leadsTo_operating rfl ?_
    split <;> simp
  | svcSample high => exact leadsTo_operating rfl (s.sampleService_senses high)
  | svcAsserted => exact leadsTo_occurring rfl (State.whileOperating_senses (s.sampleService_senses true))
  | svcReleased => exact leadsTo_occurring rfl (State.whileOperating_senses (s.sampleService_senses false))
  | _ => cases hc

end Sys2Proof.Machine
end

section
/-! PROOF. O15, the commands that do touch the sensor interface, the estimate or the supervisor. -/
namespace Sys2Proof.Machine

/-! ### States in range, block by block -/

/-- A state agrees in its ranges with one whose three blocks are the same. -/
theorem State.estimateInRange_of_senses {s t : State} (h : t.senses = s.senses) (hs : s.estimateInRange = true) :
    t.estimateInRange = true := by
  obtain ⟨hsif, hleu, hsup⟩ := State.senses_eq_iff.mp h
  rw [State.estimateInRange_iff, hsif, hleu, hsup]
  exact s.estimateInRange_iff.mp hs

theorem State.setSif_estimateInRange {s : State} {x : Sif} (hs : s.estimateInRange = true) (hx : x.InRange) :
    (s.setSif x).estimateInRange = true := by
  obtain ⟨_, hleu, hsup⟩ := s.estimateInRange_iff.mp hs
  exact (State.estimateInRange_iff _).mpr ⟨hx, hleu, hsup⟩

theorem State.setLeu_estimateInRange {s : State} {x : Leu} (hs : s.estimateInRange = true) (hx : x.InRange) :
    (s.setLeu x).estimateInRange = true := by
  obtain ⟨hsif, _, hsup⟩ := s.estimateInRange_iff.mp hs
  exact (State.estimateInRange_iff _).mpr ⟨hsif, hx, hsup⟩

theorem State.setSup_estimateInRange {s : State} {x : Sup} (hs : s.estimateInRange = true) (hx : x.AccInRange) :
    (s.setSup x).estimateInRange = true := by
  obtain ⟨hsif, hleu, _⟩ := s.estimateInRange_iff.mp hs
  exact (State.estimateInRange_iff _).mpr ⟨hsif, hleu, hx⟩

theorem State.whileOperating_estimateInRange {s t : State} (hs : s.estimateInRange = true)
    (ht : t.estimateInRange = true) : (s.whileOperating t).estimateInRange = true :=
  State.whileOperating_keeps (P := fun u => u.estimateInRange = true) hs ht

theorem State.accInRange {s : State} (hs : s.estimateInRange = true) : s.sup.AccInRange :=
  (s.estimateInRange_iff.mp hs).2.2

theorem State.sifInRange {s : State} (hs : s.estimateInRange = true) : s.sif.InRange := (s.estimateInRange_iff.mp hs).1

theorem State.leuInRange {s : State} (hs : s.estimateInRange = true) : s.leu.InRange :=
  (s.estimateInRange_iff.mp hs).2.1

/-- A wheel whose speed is in range put in a wheel's place. -/
theorem State.setWheel_estimateInRange {s : State} {w : Wheel} {x : WheelInput} (hs : s.estimateInRange = true)
    (hx : x.speed ≤ 9000) : (s.setWheel w x).estimateInRange = true := by
  refine State.setSif_estimateInRange hs { State.sifInRange hs with speed := fun j => ?_ }
  rw [PerWheel.get_set]
  split
  · exact hx
  · exact (State.sifInRange hs).speed j

/-! ### The sensor interface -/

theorem State.silenceRises_senses (s : State) (p : PortName) : (s.silenceRises p).senses = s.senses := by
  unfold State.silenceRises
  dsimp only
  split
  · split <;> simp
  · simp

theorem State.cycleTimerExpires_estimateInRange {s : State} (hs : s.estimateInRange = true) :
    s.cycleTimerExpires.estimateInRange = true := by
  unfold State.cycleTimerExpires
  split
  · exact hs
  · have ht := State.setLeu_estimateInRange hs (x := { s.leu with cycleTimer := some 0 })
      { State.leuInRange hs with }
    have hu := State.setSif_estimateInRange ht (x := { s.sif with transaction := true, mosi := blockCommand })
      { State.sifInRange hs with }
    refine State.estimateInRange_of_senses ?_ hu
    rw [State.silenceRises_senses, State.silenceRises_senses, State.silenceRises_senses]
    rfl

/-- R12: the silence test moves no speed. -/
@[simp] theorem WheelInput.silenceTest_speed (x other : WheelInput) : (x.silenceTest other).speed = x.speed := by
  unfold WheelInput.silenceTest; split <;> rfl

@[simp] theorem silenceTested_speed (x : PerWheel WheelInput) (w : Wheel) :
    ((silenceTested x).get w).speed = (x.get w).speed := by
  cases w <;> simp [silenceTested, PerWheel.get]

/-- R15, R16: v_ref is a wheel's speed or the value held. -/
theorem referenceSpeed_le {x : PerWheel WheelInput} {previous limit : Nat} (aF : Int)
    (hw : ∀ w, (x.get w).speed ≤ limit) (hp : previous ≤ limit) : referenceSpeed x aF previous ≤ limit := by
  have hfront : x.front.speed ≤ limit := hw .front
  have hrear : x.rear.speed ≤ limit := hw .rear
  unfold referenceSpeed
  split
  · split <;> omega
  all_goals assumption

theorem Sif.complete_inRange {x : Sif} (h : x.InRange) (block : Vector Byte 16) (aF : Int) :
    (x.complete block aF).InRange where
  sample := by
    simp only [Sif.complete, Sif.inertialAfter]
    split
    · exact blockInertial_inRange block
    · cases hl : x.lastValid with
      | none => rfl
      | some r => exact h.lastValid r hl
  lastValid := by
    simp only [Sif.complete]
    split
    · rintro r ⟨⟩; exact blockInertial_inRange block
    · exact h.lastValid
  invalidRun := by
    simp only [Sif.complete, saturatingSucc]
    split <;> omega
  speed := fun w => by
    simp only [Sif.complete, silenceTested_speed]
    exact h.speed w
  vRef := referenceSpeed_le aF (fun w => by rw [silenceTested_speed]; exact h.speed w) h.vRef

theorem State.endSensorWait_estimateInRange {s : State} (hs : s.estimateInRange = true) :
    s.endSensorWait.estimateInRange = true :=
  State.setSup_estimateInRange hs (State.accInRange hs)

theorem State.sampleCompleted_estimateInRange {s : State} (hs : s.estimateInRange = true) :
    s.sampleCompleted.estimateInRange = true := by
  unfold State.sampleCompleted
  dsimp only
  refine State.setLeu_estimateInRange ?_ ?_
  · split
    · refine State.estimateInRange_of_senses (State.closeSession_senses _) ?_
      split
      · exact State.endSensorWait_estimateInRange hs
      · exact hs
    · split
      · exact State.endSensorWait_estimateInRange hs
      · exact hs
  · split_ifs <;> exact { State.leuInRange hs with }

theorem State.transactionCompletes_estimateInRange {s : State} (hs : s.estimateInRange = true)
    (block : Vector Byte 16) : (s.transactionCompletes block).estimateInRange = true := by
  unfold State.transactionCompletes
  split
  · exact State.sampleCompleted_estimateInRange
      (State.setSif_estimateInRange hs (Sif.complete_inRange (State.sifInRange hs) block _))
  · exact hs

/-- R9, R10, R11: a capture gives a clamped speed or keeps the one there was. -/
theorem WheelInput.capture_speed_le {x : WheelInput} (h : x.speed ≤ 9000) (c : WorkingCopy) (w : Wheel) (edge : Nat) :
    (x.capture c w edge).speed ≤ 9000 := by
  unfold WheelInput.capture
  dsimp only
  split
  · exact h
  · split
    · unfold WheelInput.plausibleTooth
      dsimp only
      split
      · exact wheelSpeed_le _ _ _
      · split <;> exact wheelSpeed_le _ _ _
    · exact h

theorem State.captureTooth_estimateInRange {s : State} (hs : s.estimateInRange = true) (w : Wheel) (edge : Nat) :
    (s.captureTooth w edge).estimateInRange = true := by
  have hw : (s.wheel w).speed ≤ 9000 := (State.sifInRange hs).speed w
  exact State.estimateInRange_of_senses (State.handOnCapture_senses _ _ _ _ _)
    (State.setWheel_estimateInRange hs (WheelInput.capture_speed_le hw _ _ _))

theorem State.silenced_estimateInRange {s : State} (hs : s.estimateInRange = true) (w : Wheel) :
    (s.setWheel w (s.wheel w).silenced).estimateInRange = true := by
  refine State.setWheel_estimateInRange hs ?_
  unfold WheelInput.silenced
  split
  · exact Nat.zero_le _
  · exact (State.sifInRange hs).speed w

/-! ### The estimate -/

theorem State.publishEstimate_estimateInRange {s : State} (hs : s.estimateInRange = true) :
    s.publishEstimate.estimateInRange = true := by
  have ht := State.setLeu_estimateInRange hs (Leu.publish_inRange (State.leuInRange hs) s.params s.sif.invalidRun
    (State.sifInRange hs).sample)
  unfold State.publishEstimate
  split
  · exact hs
  · dsimp only
    split
    · exact State.estimateInRange_of_senses (State.setGbu_senses _ _) ht
    · exact State.estimateInRange_of_senses
        ((State.monitorsPublication_senses _ _).trans (State.setGbu_senses _ _)) ht

theorem State.estimateStep_estimateInRange {s : State} (hs : s.estimateInRange = true) :
    s.estimateStep.estimateInRange = true :=
  State.whileOperating_estimateInRange hs (State.publishEstimate_estimateInRange hs)

/-! ### The retained record -/

/-- R191: the copy a rewrite takes has the accumulator of the latest estimate record, or the unit's own. -/
theorem State.recordCopy_acc_le {s : State} (h : s.leu.InRange) : s.recordCopy.acc.natAbs ≤ 6000000 := by
  simp only [State.recordCopy]
  cases hp : s.leu.published with
  | none => exact h.acc
  | some p => exact ((EstimateRecord.inRange_iff _).mp (h.published p hp)).2.1

theorem State.startRewrite_estimateInRange {s : State} (hs : s.estimateInRange = true) :
    s.startRewrite.estimateInRange = true := by
  refine State.setSup_estimateInRange hs ?_
  rintro c (h | h)
  · exact State.accInRange hs c (.inl h)
  · obtain rfl : s.recordCopy = c := Option.some.inj h
    exact State.recordCopy_acc_le (State.leuInRange hs)

theorem State.completeReevaluation_estimateInRange {s : State} (hs : s.estimateInRange = true) :
    s.completeReevaluation.estimateInRange = true := by
  unfold State.completeReevaluation
  split
  · exact State.startRewrite_estimateInRange (State.estimateInRange_of_senses (by simp) hs)
  · exact hs

theorem State.rewriteCompletes_estimateInRange {s : State} (hs : s.estimateInRange = true) :
    s.rewriteCompletes.estimateInRange = true := by
  unfold State.rewriteCompletes
  split
  · exact hs
  · rename_i copy hcopy
    refine State.setSup_estimateInRange hs ?_
    rintro c (⟨⟨⟩⟩ | h)
    · exact State.accInRange hs _ (.inr hcopy)
    · cases h

/-! ### Holds and releases -/

theorem Sif.start_inRange : Sif.start.InRange := (Sif.inRange_iff _).mp rfl

theorem Leu.cold_inRange : Leu.cold.InRange :=
  ⟨by decide, by decide, by decide, by decide, by decide, by decide, by rintro p ⟨⟩⟩

/-- R41: the estimate of a warm release takes the record's accumulator and charges U for the outage. -/
theorem Leu.warm_inRange {c : RecordContents} (h : c.acc.natAbs ≤ 6000000) (outage : Nat) :
    (Leu.warm c outage).InRange := by
  unfold Leu.warm
  split
  · exact { Leu.cold_inRange with }
  · exact { Leu.cold_inRange with
      acc := h
      u_ge := by simp only [warmUncertainty]; omega
      u_le := by simp only [warmUncertainty]; omega }

theorem Sup.accInRange_of_warmContents {x : Sup} {c : RecordContents} (h : x.AccInRange)
    (hc : x.warmContents = some c) : c.acc.natAbs ≤ 6000000 := by
  refine h c (.inl ?_)
  unfold Sup.warmContents at hc
  split at hc
  · exact (Option.filter_eq_some_iff.mp hc).1
  · cases hc

theorem Sup.released_accInRange {x : Sup} (h : x.AccInRange) : x.released.AccInRange := by
  rintro c (hc | ⟨⟨⟩⟩)
  exact h c (.inl hc)

theorem State.release_estimateInRange {s : State} (hs : s.estimateInRange = true) : s.release.estimateInRange = true := by
  have hsup := Sup.released_accInRange (State.accInRange hs)
  unfold State.release
  split
  · rename_i c hc
    exact (State.estimateInRange_iff _).mpr
      ⟨Sif.start_inRange, Leu.warm_inRange (Sup.accInRange_of_warmContents (State.accInRange hs) hc) _, hsup⟩
  · exact (State.estimateInRange_iff _).mpr ⟨Sif.start_inRange, Leu.cold_inRange, hsup⟩

theorem State.holdEnds_estimateInRange {s : State} (hs : s.estimateInRange = true) :
    s.holdEnds.estimateInRange = true := by
  unfold State.holdEnds
  split
  · exact State.release_estimateInRange hs
  · exact hs

theorem Sup.stopped_accInRange {x : Sup} (h : x.AccInRange) : x.stopped.AccInRange := by
  unfold Sup.stopped
  split
  · exact h
  · rintro c (⟨⟨⟩⟩ | ⟨⟨⟩⟩)

theorem State.stopBlocks_estimateInRange {s : State} (hs : s.estimateInRange = true) :
    s.stopBlocks.estimateInRange = true :=
  (State.estimateInRange_iff _).mpr ⟨{ State.sifInRange hs with }, { State.leuInRange hs with },
    Sup.stopped_accInRange (State.accInRange hs)⟩

theorem State.stopped_estimateInRange {s : State} (hs : s.estimateInRange = true) : s.stopped.estimateInRange = true := by
  unfold State.stopped
  split
  · exact State.stopBlocks_estimateInRange hs
  · exact hs

theorem State.enterReset_estimateInRange {s : State} (hs : s.estimateInRange = true) (cause : EntryCause) :
    (s.enterReset cause).estimateInRange = true := by
  have ht := State.stopBlocks_estimateInRange hs
  unfold State.enterReset
  split
  · exact State.setSup_estimateInRange ht (State.accInRange ht)
  · exact hs

theorem State.enterOff_estimateInRange {s : State} (hs : s.estimateInRange = true) :
    s.enterOff.estimateInRange = true :=
  State.setSup_estimateInRange (State.stopped_estimateInRange hs) (State.accInRange (State.stopped_estimateInRange hs))

/-! ### The supervisor's senses -/

/-- The contents that the ranges read are those of the record and of the copy. -/
theorem Sup.AccInRange.congr {x y : Sup} (h : x.AccInRange) (hrecord : y.record.contents = x.record.contents)
    (hrewrite : y.rewrite = x.rewrite) : y.AccInRange := by
  unfold Sup.AccInRange
  rw [hrecord, hrewrite]
  exact h

theorem Sup.sampleWarning_record (x : Sup) (mv : Nat) :
    (x.sampleWarning mv).record = x.record ∧ (x.sampleWarning mv).rewrite = x.rewrite := by
  unfold Sup.sampleWarning
  split_ifs <;> exact ⟨rfl, rfl⟩

theorem Sup.sampleLoss_record (x : Sup) (mv : Nat) :
    (x.sampleLoss mv).record = x.record ∧ (x.sampleLoss mv).rewrite = x.rewrite := by
  unfold Sup.sampleLoss
  split_ifs <;> exact ⟨rfl, rfl⟩

theorem Sup.sampleIgnition_record (x : Sup) (high : Bool) :
    (x.sampleIgnition high).record = x.record ∧ (x.sampleIgnition high).rewrite = x.rewrite := by
  unfold Sup.sampleIgnition
  split_ifs <;> exact ⟨rfl, rfl⟩

theorem State.sampleWarning_estimateInRange {s : State} (hs : s.estimateInRange = true) (mv : Nat) :
    (s.sampleWarning mv).estimateInRange = true := by
  obtain ⟨hrecord, hrewrite⟩ := s.sup.sampleWarning_record mv
  exact State.whileOperating_estimateInRange hs
    (State.setSup_estimateInRange hs ((State.accInRange hs).congr (congrArg _ hrecord) hrewrite))

theorem State.supplySampled_estimateInRange {s : State} (hs : s.estimateInRange = true) (mv : Nat) :
    (s.supplySampled mv).estimateInRange = true := by
  have hw := State.sampleWarning_estimateInRange hs mv
  obtain ⟨hrecord, hrewrite⟩ := (s.sampleWarning mv).sup.sampleLoss_record mv
  have ht := State.setSup_estimateInRange hw ((State.accInRange hw).congr (congrArg _ hrecord) hrewrite)
  unfold State.supplySampled State.sampleLoss
  dsimp only
  split
  · exact State.enterReset_estimateInRange ht _
  · split
    · exact State.holdEnds_estimateInRange ht
    · exact ht

theorem State.offEnds_estimateInRange {s : State} (hs : s.estimateInRange = true) : s.offEnds.estimateInRange = true := by
  unfold State.offEnds
  split
  · exact State.holdEnds_estimateInRange (State.setSup_estimateInRange hs (State.accInRange hs))
  · exact hs

theorem State.outageTicked_estimateInRange {s : State} (hs : s.estimateInRange = true) :
    s.outageTicked.estimateInRange = true := by
  unfold State.outageTicked
  split
  · exact hs
  · exact State.setSup_estimateInRange hs (State.accInRange hs)

theorem State.retainedTick_estimateInRange {s : State} (hs : s.estimateInRange = true) (high : Bool) :
    (s.retainedTick high).estimateInRange = true := by
  have ho := State.outageTicked_estimateInRange hs
  obtain ⟨hrecord, hrewrite⟩ := s.outageTicked.sup.sampleIgnition_record high
  have ht := State.setSup_estimateInRange ho ((State.accInRange ho).congr (congrArg _ hrecord) hrewrite)
  unfold State.retainedTick State.ignitionSampled
  dsimp only
  split
  · exact State.enterOff_estimateInRange ht
  · split
    · exact State.offEnds_estimateInRange ht
    · exact ht

theorem Sup.retainedPowered_accInRange (x : Sup) : x.retainedPowered.AccInRange := by
  rintro c (⟨⟨⟩⟩ | ⟨⟨⟩⟩)

/-- A command of the supervisor's senses keeps the ranges. -/
theorem exec_supervision_estimateInRange {c : Instr} {s : State} (hc : c.isSupervision = true)
    (hs : s.estimateInRange = true) : LeadsTo (fun t => t.estimateInRange = true) (exec c s) := by
  cases c with
  | supplySample mv => exact leadsTo_go (State.supplySampled_estimateInRange hs mv)
  | supplyLossTrip mv => exact leadsTo_occurring hs (State.supplySampled_estimateInRange hs mv)
  | supplyLossClear mv => exact leadsTo_occurring hs (State.supplySampled_estimateInRange hs mv)
  | lowSupplySet mv => exact leadsTo_occurring hs (State.supplySampled_estimateInRange hs mv)
  | lowSupplyClear mv => exact leadsTo_occurring hs (State.supplySampled_estimateInRange hs mv)
  | rstNAssert =>
    refine leadsTo_go (State.enterReset_estimateInRange (State.setSup_estimateInRange hs ?_) _)
    exact State.accInRange hs
  | mainDomainPowerUp =>
    refine leadsTo_go (State.enterReset_estimateInRange (State.setSup_estimateInRange hs ?_) _)
    exact State.accInRange hs
  | rstNRelease =>
    refine leadsTo_go ?_
    split
    · exact State.holdEnds_estimateInRange (State.setSup_estimateInRange hs (State.accInRange hs))
    · exact hs
  | retainedMsTick high => exact leadsTo_go (State.retainedTick_estimateInRange hs high)
  | ignitionOff => exact leadsTo_occurring hs (State.retainedTick_estimateInRange hs false)
  | ignitionOn => exact leadsTo_occurring hs (State.retainedTick_estimateInRange hs true)
  | retainedDomainPowerUp =>
    exact leadsTo_go (State.setSup_estimateInRange (State.stopped_estimateInRange hs)
      (Sup.retainedPowered_accInRange _))
  | _ => cases hc

/-! ### The load -/

theorem WheelInput.reloaded_speed_le {x : WheelInput} (h : x.speed ≤ 9000) (c : WorkingCopy) (w : Wheel) :
    (x.reloaded c w).speed ≤ 9000 := by
  unfold WheelInput.reloaded
  split
  · exact h
  · exact wheelSpeed_le _ _ _

theorem Sif.reloaded_inRange {x : Sif} (h : x.InRange) (c : WorkingCopy) : (x.reloaded c).InRange :=
  { h with
    speed := fun w => by
      cases w with
      | front => exact WheelInput.reloaded_speed_le (h.speed .front) c .front
      | rear => exact WheelInput.reloaded_speed_le (h.speed .rear) c .rear }

theorem State.loadCompletes_estimateInRange {s : State} (hs : s.estimateInRange = true) :
    s.loadCompletes.estimateInRange = true := by
  have hacc := State.accInRange hs
  unfold State.loadCompletes
  split
  · exact (State.estimateInRange_iff _).mpr
      ⟨Sif.reloaded_inRange (State.sifInRange hs) _, { State.leuInRange hs with }, hacc⟩
  · exact hs

/-! ### Every step -/

theorem exec_estimateInRange {c : Instr} {s : State} (hs : s.estimateInRange = true) :
    LeadsTo (fun t => t.estimateInRange = true) (exec c s) := by
  by_cases hquiet : c.movesSenses = false
  · exact fun t ht => State.estimateInRange_of_senses (exec_senses c s hquiet t ht) hs
  by_cases hsup : c.isSupervision = true
  · exact exec_supervision_estimateInRange hsup hs
  have hc : (c.movesSenses && !c.isSupervision) = true := by
    rw [Bool.eq_true_of_not_eq_false hquiet, Bool.eq_false_of_not_eq_true hsup]; rfl
  have hestimate := State.estimateStep_estimateInRange hs
  have hcycle := State.cycleTimerExpires_estimateInRange hs
  have hreeval := State.completeReevaluation_estimateInRange hs
  cases c with
  | cycleTimerExpiry => exact leadsTo_operating hs hcycle
  | silenceCountExpiry p => exact leadsTo_occurring hs (State.whileOperating_estimateInRange hs hcycle)
  | transactionCompletion block => exact leadsTo_operating hs (State.transactionCompletes_estimateInRange hs block)
  | toothCapture w edge => exact leadsTo_operating hs (State.captureTooth_estimateInRange hs w edge)
  | wheelRevalidated w edge =>
    exact leadsTo_occurring hs (State.whileOperating_estimateInRange hs (State.captureTooth_estimateInRange hs w edge))
  | silenceExpiry w => exact leadsTo_operating hs (State.silenced_estimateInRange hs w)
  | estimatePublication => exact leadsTo_go hestimate
  | coastCountExpiry => exact leadsTo_occurring hs hestimate
  | settlingGoodCountReached => exact leadsTo_occurring hs hestimate
  | delayCountExpiry m => exact leadsTo_occurring hs hestimate
  | softHoldExpiry m => exact leadsTo_occurring hs hestimate
  | blankingExpiry m => exact leadsTo_occurring hs hestimate
  | hardAutoEnd m => exact leadsTo_occurring hs hestimate
  | reevaluationCompletion => exact leadsTo_operating hs hreeval
  | grantCountdownExpiry k => exact leadsTo_occurring hs (State.whileOperating_estimateInRange hs hreeval)
  | retainedRewriteCompletion => exact leadsTo_operating hs (State.rewriteCompletes_estimateInRange hs)
  | loadCompletion => exact leadsTo_go (State.loadCompletes_estimateInRange hs)
  | sensorWaitExpiry =>
    refine leadsTo_go ?_
    split
    · exact State.endSensorWait_estimateInRange hs
    · exact hs
  | _ => cases hc

theorem State.tick_estimateInRange {s : State} (hs : s.estimateInRange = true) : s.tick.estimateInRange = true := by
  have hsif : s.sif.tick.InRange := { State.sifInRange hs with
    speed := fun w => by
      cases w with
      | front => exact (State.sifInRange hs).speed .front
      | rear => exact (State.sifInRange hs).speed .rear }
  exact State.whileOperating_estimateInRange hs
    ((State.estimateInRange_iff _).mpr ⟨hsif, { State.leuInRange hs with }, State.accInRange hs⟩)

/-- Settles O15: each command keeps the ranges (`exec_estimateInRange`), and so does the tick of an empty queue. -/
theorem estimateRangesKept : Obligations.EstimateRangesKept := by
  intro s t hstep hs
  unfold step at hstep
  split at hstep
  · exact exec_estimateInRange (State.estimateInRange_of_senses (State.setPending_senses _ _) hs) t hstep
  · obtain rfl : s.tick = t := by simpa using hstep
    exact State.tick_estimateInRange hs

end Sys2Proof.Machine
end

section
/-! PROOF. O19, O20: what a transaction's completion does: the judging of its block, and the wheels and the reference speed
it forms. -/
namespace Sys2Proof.Machine

/-- What an operating part does at an event is what the event does (R184). -/
theorem State.whileOperating_of_operating {s t : State} (h : s.operating = true) : s.whileOperating t = t := by
  simp only [State.whileOperating, h, if_true]

/-! ### The block (R4, R5, R201) -/

/-- The 14 bytes that the check word sums, one by one. -/
theorem take_block (block : Vector Byte 16) : block.toList.take 14 = (List.range 14).map (blockByte block) := by
  refine List.ext_getElem (by simp) fun i hi _ => ?_
  have hlt : i < 16 := by simp at hi; omega
  simp [blockByte, hlt]

theorem byteSum_le (bytes : List Byte) : byteSum bytes ≤ 255 * bytes.length := by
  unfold byteSum
  calc (bytes.map BitVec.toNat).sum ≤ (bytes.map BitVec.toNat).length * 255 :=
        List.sum_le_card_nsmul _ _ fun n hn => by
          obtain ⟨b, _, rfl⟩ := List.mem_map.mp hn
          have := b.isLt
          omega
    _ = 255 * bytes.length := by rw [List.length_map, Nat.mul_comm]

/-- A word is the inverse of a sum that fits in 16 bits when its value is what the sum leaves of 65535 (R4, R201). -/
theorem word16_eq_not_iff (hi lo : Byte) {n : Nat} (h : n ≤ 65535) :
    word16 hi lo = ~~~ BitVec.ofNat 16 n ↔ unsigned16 hi lo = 65535 - n := by
  unfold unsigned16
  rw [← BitVec.toNat_inj, BitVec.toNat_not, BitVec.toNat_ofNat, Nat.mod_eq_of_lt (by omega)]

theorem blockCheck_iff (block : Vector Byte 16) :
    word16 (blockByte block 14) (blockByte block 15) = blockCheck block
      ↔ unsigned16 (blockByte block 14) (blockByte block 15)
          = 65535 - ((List.range 14).map fun i => (blockByte block i).toNat).sum := by
  have hsum : byteSum (block.toList.take 14) = ((List.range 14).map fun i => (blockByte block i).toNat).sum := by
    rw [take_block, byteSum, List.map_map]; rfl
  have hle : byteSum (block.toList.take 14) ≤ 65535 := by
    refine (byteSum_le _).trans ?_
    rw [List.length_take]
    omega
  rw [blockCheck, word16_eq_not_iff _ _ hle, hsum]

/-- R4: a block is valid when its check word, its ready bit, its counter and its six channels pass. -/
theorem blockValid_iff (block : Vector Byte 16) (last : Option Inertial) :
    blockValid block last = true ↔
      unsigned16 (blockByte block 14) (blockByte block 15)
          = 65535 - ((List.range 14).map fun i => (blockByte block i).toNat).sum
        ∧ (blockByte block 1).getLsbD 0 = true
        ∧ (∀ r, last = some r → blockByte block 0 ≠ r.counter)
        ∧ ∀ i ∈ [2, 4, 6, 8, 10, 12], signed16 (blockByte block i) (blockByte block (i + 1)) ≠ 32767
            ∧ signed16 (blockByte block i) (blockByte block (i + 1)) ≠ -32767
            ∧ signed16 (blockByte block i) (blockByte block (i + 1)) ≠ -32768 := by
  have hchannels : ((blockChannels block).all fun c => c != 32767 && c != -32767 && c != -32768) = true
      ↔ ∀ i ∈ [2, 4, 6, 8, 10, 12], signed16 (blockByte block i) (blockByte block (i + 1)) ≠ 32767
          ∧ signed16 (blockByte block i) (blockByte block (i + 1)) ≠ -32767
          ∧ signed16 (blockByte block i) (blockByte block (i + 1)) ≠ -32768 := by
    simp only [blockChannels, List.all_map, List.all_eq_true, Function.comp_apply, blockChannel, Bool.and_eq_true,
      bne_iff_ne, and_assoc]
  unfold blockValid
  simp only [Bool.and_eq_true, beq_iff_eq, blockCheck_iff, hchannels, and_assoc]
  cases last <;> simp

/-! ### The completion (R7) -/

/-- What a completed sample is at the supervisor, the session and the LEU (R7, R39, R169, R189; log 11). -/
theorem State.sampleCompleted_eq (s : State) :
    s.sampleCompleted = { s with
      sup := if s.sup.start = .sensorWait ∧ s.sif.sample.imuValid = true then
          { s.sup with start := .running, sensorWait := none } else s.sup
      cst := if 0 < s.sif.vRef then { s.cst with session := .closed } else s.cst
      leu := { s.leu with
        work := if s.sup.start = .sensorWait ∧ s.sif.sample.imuValid = false then .sensorWait else .ordinary } } := by
  unfold State.sampleCompleted
  simp only [Bool.and_eq_true, beq_iff_eq, Bool.not_eq_true']
  split_ifs <;> rfl

/-- The completion of a transaction in flight at an operating part. -/
theorem exec_transactionCompletion {s : State} (block : Vector Byte 16) (hop : s.operating = true)
    (htr : s.sif.transaction = true) :
    exec (.transactionCompletion block) s = .next (s.setSif (s.sif.complete block s.leu.aF)).sampleCompleted := by
  simp only [exec, execTransactionCompletion, State.whileOperating_of_operating hop, State.transactionCompletes, htr,
    if_true]
  rfl

/-- Settles O19, part by part: the judging is `blockValid_iff`, and a completion is `State.sampleCompleted_eq` at the
sensor interface that `Sif.complete` leaves. -/
theorem samplesJudged : Obligations.SamplesJudged := by
  refine ⟨blockValid_iff, fun _ => rfl, fun s block hop htr hvalid => ?_, fun s block hop htr hvalid => ?_⟩
  all_goals
    refine ⟨_, exec_transactionCompletion block hop htr, ?_⟩
    rw [State.sampleCompleted_eq]
    simp [State.setSif, Sif.complete, Sif.inertialAfter, hvalid, saturatingSucc, Inertial.zero]

/-! ### The wheels and the reference speed (R12, R15, R16) -/

/-- R12: a wheel is INVALID after the silence test when it was, or when it is silent beside a VALID one above 1000 cm/s. -/
theorem WheelInput.silenceTest_state_iff (x other : WheelInput) :
    (x.silenceTest other).state = .invalid ↔
      x.state = .invalid ∨ (x.lastEdge = none ∧ other.state = .valid ∧ 1000 < other.speed) := by
  unfold WheelInput.silenceTest
  cases hx : x.state with
  | invalid => simp [hx]
  | valid => split <;> simp_all

theorem silenceTested_get (x : PerWheel WheelInput) (w : Wheel) :
    (silenceTested x).get w = (x.get w).silenceTest (x.get w.other) := by
  cases w <;> rfl

/-- R15: two VALID wheels give the front speed, or under deceleration the faster one. -/
theorem referenceSpeed_both {x : PerWheel WheelInput} (aF : Int) (previous : Nat) (hf : (x.get .front).state = .valid)
    (hr : (x.get .rear).state = .valid) :
    referenceSpeed x aF previous
      = if 0 ≤ aF then (x.get .front).speed else max (x.get .front).speed (x.get .rear).speed := by
  simp only [PerWheel.get] at hf hr
  simp only [referenceSpeed, hf, hr, PerWheel.get]

/-- R15: one VALID wheel gives its speed. -/
theorem referenceSpeed_one {x : PerWheel WheelInput} (aF : Int) (previous : Nat) {w : Wheel}
    (hw : (x.get w).state = .valid) (ho : (x.get w.other).state = .invalid) :
    referenceSpeed x aF previous = (x.get w).speed := by
  cases w <;> simp only [PerWheel.get, Wheel.other] at hw ho <;> simp only [referenceSpeed, hw, ho, PerWheel.get]

/-- R16: without a VALID wheel the value is held. -/
theorem referenceSpeed_neither {x : PerWheel WheelInput} (aF : Int) (previous : Nat)
    (hf : (x.get .front).state = .invalid) (hr : (x.get .rear).state = .invalid) :
    referenceSpeed x aF previous = previous := by
  simp only [PerWheel.get] at hf hr
  simp only [referenceSpeed, hf, hr]

theorem referenceValid_iff (x : PerWheel WheelInput) : referenceValid x = true ↔ ∃ w, (x.get w).state = .valid := by
  simp only [referenceValid, Bool.or_eq_true, beq_iff_eq]
  constructor
  · rintro (h | h)
    · exact ⟨.front, h⟩
    · exact ⟨.rear, h⟩
  · rintro ⟨w, h⟩
    cases w
    · exact .inl h
    · exact .inr h

@[simp] theorem State.sampleCompleted_sif (s : State) : s.sampleCompleted.sif = s.sif := by
  rw [State.sampleCompleted_eq]

/-- Settles O20: the wheels of a completion are those of the silence test, and v_ref is formed from them. -/
theorem referenceSpeedFormed : Obligations.ReferenceSpeedFormed := by
  intro s block hop htr
  refine ⟨_, exec_transactionCompletion block hop htr, ?_⟩
  have hspeed : ∀ w, ((silenceTested s.sif.wheels).get w).speed = (s.wheel w).speed := silenceTested_speed _
  simp only [State.wheel, State.sampleCompleted_sif, State.setSif_sif, Sif.complete] at hspeed ⊢
  refine ⟨fun w => ?_, fun w => ⟨hspeed w, ?_, ?_⟩, fun hf hr => ?_, fun w hw ho => ?_,
    referenceSpeed_neither _ _, referenceValid_iff _, trivial, trivial⟩
  · rw [silenceTested_get]
    exact WheelInput.silenceTest_state_iff _ _
  · rw [← hspeed w]
    cases w <;> rfl
  · cases w <;> rfl
  · rw [referenceSpeed_both _ _ hf hr, hspeed, hspeed]
  · rw [referenceSpeed_one _ _ hw ho, hspeed]

end Sys2Proof.Machine
end

section
/-! PROOF. O21, O22: what a tooth capture and a silence expiry make of their wheel. -/
namespace Sys2Proof.Machine

/-! ### A capture at its wheel (R8, R9, R11, R13) -/

section
variable {x : WheelInput} (c : WorkingCopy) (w : Wheel) {edge last : Nat}

@[simp] theorem WheelInput.capture_lastEdge (x : WheelInput) (edge : Nat) :
    (x.capture c w edge).lastEdge = some edge := by
  unfold WheelInput.capture WheelInput.plausibleTooth
  dsimp only
  split
  · rfl
  · split
    · split
      · rfl
      · split <;> rfl
    · rfl

@[simp] theorem WheelInput.capture_silence (x : WheelInput) (edge : Nat) : (x.capture c w edge).silence = some 0 := by
  unfold WheelInput.capture WheelInput.plausibleTooth
  dsimp only
  split
  · rfl
  · split
    · split
      · rfl
      · split <;> rfl
    · rfl

/-- R8: without a time of last edge a capture yields no period. -/
theorem WheelInput.capture_first (h : x.lastEdge = none) :
    x.capture c w edge = { x with lastEdge := some edge, silence := some 0 } := by
  simp only [WheelInput.capture, WheelInput.periodAt, h, Option.map_none]

/-- R9, R13: a capture with a plausible period gives the speed and, in an INVALID wheel, one more plausible tooth, the
T-th of which makes it VALID (log 35, 42). -/
theorem WheelInput.capture_plausible (h : x.lastEdge = some last) (hp : 20 ≤ edge - last) :
    (x.capture c w edge).period = some (edge - last)
      ∧ (x.capture c w edge).speed = wheelSpeed c w (edge - last)
      ∧ (x.state = .valid → (x.capture c w edge).state = .valid)
      ∧ (x.state = .invalid →
          ((x.capture c w edge).state, (x.capture c w edge).plausible)
            = if c.teeth w ≤ x.plausible + 1 then (.valid, 0) else (.invalid, x.plausible + 1)) := by
  simp only [WheelInput.capture, WheelInput.periodAt, h, Option.map_some, hp, if_true, WheelInput.plausibleTooth]
  cases x.state with
  | valid => exact ⟨rfl, rfl, fun _ => rfl, nofun⟩
  | invalid =>
    dsimp only
    split
    · exact ⟨rfl, rfl, nofun, fun _ => rfl⟩
    · exact ⟨rfl, rfl, nofun, fun _ => rfl⟩

/-- R11: a capture with an implausible period. -/
theorem WheelInput.capture_implausible (h : x.lastEdge = some last) (hp : edge - last < 20) :
    x.capture c w edge
      = { x with lastEdge := some edge, silence := some 0, state := .invalid, plausible := 0 } := by
  simp only [WheelInput.capture, WheelInput.periodAt, h, Option.map_some, Nat.not_le.mpr hp, if_false]
  rfl

end

/-! ### A capture at the state -/

/-- What no clamp and no end of one moves: all but the monitors, the grants, the lines and the friction learning unit. -/
def State.besideClamps (s : State) : State :=
  { s with
    slm := State.reset.slm, flu := State.reset.flu, lines := State.reset.lines
    gre := { s.gre with grants := State.reset.gre.grants } }

/-- A frame read off the projection. -/
theorem State.eq_of_besideClamps {s t : State} (h : t.besideClamps = s.besideClamps) :
    t = { s with slm := t.slm, flu := t.flu, lines := t.lines, gre := { s.gre with grants := t.gre.grants } } := by
  obtain ⟨_, _, _, _, ⟨⟩⟩ := s
  obtain ⟨_, _, _, _, ⟨⟩⟩ := t
  simpa [State.besideClamps] using h

@[simp] theorem State.setMonitor_besideClamps (s : State) (m : MonitorName) (x : Monitor) :
    (s.setMonitor m x).besideClamps = s.besideClamps := rfl

@[simp] theorem State.endClamp_besideClamps (s : State) (m : MonitorName) (x : Monitor) :
    (s.endClamp m x).besideClamps = s.besideClamps := by
  simp only [State.besideClamps, State.mk.injEq]
  rw [State.endClamp_gre]
  simp

@[simp] theorem State.triggerHard_besideClamps (s : State) (m : MonitorName) (kind : TriggerKind) (e : Word16) :
    (s.triggerHard m kind e).besideClamps = s.besideClamps := by
  simp only [State.besideClamps, State.mk.injEq]
  rw [State.triggerHard_gre]
  simp

@[simp] theorem State.idleMonitor_besideClamps (s : State) (m : MonitorName) :
    (s.idleMonitor m).besideClamps = s.besideClamps := by
  unfold State.idleMonitor; split <;> simp

@[simp] theorem State.monitorCapture_besideClamps (s : State) (edge : Nat) (period : Option Nat) (seen : WheelState)
    (m : MonitorName) : (s.monitorCapture edge period seen m).besideClamps = s.besideClamps := by
  unfold State.monitorCapture
  cases seen with
  | invalid => dsimp only; split <;> simp
  | valid => dsimp only; split <;> simp

/-- R14: a capture handed on moves the wheel's monitors and what a clamp or its end moves. -/
@[simp] theorem State.handOnCapture_besideClamps (s : State) (w : Wheel) (edge : Nat) (period : Option Nat)
    (seen : WheelState) : (s.handOnCapture w edge period seen).besideClamps = s.besideClamps := by
  cases w <;> simp [State.handOnCapture]

@[simp] theorem State.handOnCapture_sif (s : State) (w : Wheel) (edge : Nat) (period : Option Nat)
    (seen : WheelState) : (s.handOnCapture w edge period seen).sif = s.sif :=
  (State.senses_eq_iff.mp (s.handOnCapture_senses w edge period seen)).1

theorem State.captureTooth_sif (s : State) (w : Wheel) (edge : Nat) :
    (s.captureTooth w edge).sif
      = { s.sif with wheels := s.sif.wheels.set w ((s.wheel w).capture s.params w edge) } :=
  State.handOnCapture_sif _ _ _ _ _

@[simp] theorem State.captureTooth_wheel (s : State) (w : Wheel) (edge : Nat) :
    (s.captureTooth w edge).wheel w = (s.wheel w).capture s.params w edge := by
  rw [State.wheel, State.captureTooth_sif, PerWheel.get_set_same]

theorem State.captureTooth_wheel_other (s : State) (w : Wheel) (edge : Nat) :
    (s.captureTooth w edge).wheel w.other = s.wheel w.other := by
  rw [State.wheel, State.captureTooth_sif, PerWheel.get_set_other _ _ _ _ (by cases w <;> decide)]
  rfl

/-- R14: a capture moves its wheel and what a clamp or its end moves. -/
theorem State.captureTooth_frame (s : State) (w : Wheel) (edge : Nat) :
    s.captureTooth w edge = { s with
      sif := { s.sif with wheels := (s.captureTooth w edge).sif.wheels }
      slm := (s.captureTooth w edge).slm
      flu := (s.captureTooth w edge).flu
      lines := (s.captureTooth w edge).lines
      gre := { s.gre with grants := (s.captureTooth w edge).gre.grants } } := by
  rw [State.captureTooth_sif]
  exact State.eq_of_besideClamps (State.handOnCapture_besideClamps _ _ _ _ _)

theorem exec_toothCapture {s : State} (w : Wheel) (edge : Nat) (hop : s.operating = true) :
    exec (.toothCapture w edge) s = .next (s.captureTooth w edge) := by
  simp only [exec, execToothCapture, State.whileOperating_of_operating hop]
  rfl

/-- Settles O21: the wheel after a capture is `WheelInput.capture`'s, by the three cases of its period. -/
theorem toothCaptured : Obligations.ToothCaptured := by
  intro s w edge hop
  refine ⟨_, exec_toothCapture w edge hop, ?_⟩
  rw [State.captureTooth_wheel, State.captureTooth_wheel_other]
  refine ⟨WheelInput.capture_lastEdge _ _ _ _, WheelInput.capture_silence _ _ _ _, rfl,
    WheelInput.capture_first _ _, fun last hlast hp => ?_, fun last hlast hp => ?_, s.captureTooth_frame w edge⟩
  · obtain ⟨hperiod, hspeed, hvalid, hinvalid⟩ := WheelInput.capture_plausible s.params w hlast hp
    exact ⟨hperiod, hspeed.trans (wheelSpeed_eq _ _ _), hvalid, hinvalid⟩
  · rw [WheelInput.capture_implausible _ _ hlast hp]
    exact ⟨rfl, rfl, rfl, rfl⟩

/-! ### Revalidation and silence (R10, R13) -/

/-- The capture of its T-th plausible tooth makes an INVALID wheel VALID (R13; log 35, 42). -/
theorem WheelInput.capture_revalidates {x : WheelInput} {c : WorkingCopy} {w : Wheel} {edge last : Nat}
    (hi : x.state = .invalid) (hlast : x.lastEdge = some last) (hp : 20 ≤ edge - last)
    (ht : c.teeth w ≤ x.plausible + 1) :
    (x.capture c w edge).state = .valid ∧ (x.capture c w edge).plausible = 0
      ∧ (x.capture c w edge).period = some (edge - last) := by
  obtain ⟨hperiod, _, _, hinvalid⟩ := WheelInput.capture_plausible c w hlast hp
  have hturn := hinvalid hi
  rw [if_pos ht, Prod.mk.injEq] at hturn
  exact ⟨hturn.1, hturn.2, hperiod⟩

/-- R10: the silence expiry of a wheel that has a time of last edge. -/
theorem WheelInput.silenced_eq {x : WheelInput} {last : Nat} (h : x.lastEdge = some last) :
    x.silenced = { x with lastEdge := none, period := none, speed := 0, silence := none, plausible := 0 } := by
  simp [WheelInput.silenced, h]

/-- Settles O22: the row of the turn is the capture at which `WheelInput.capture_revalidates`; the silence row is
`WheelInput.silenced_eq`. -/
theorem wheelValidity : Obligations.WheelValidity := by
  refine ⟨fun s w edge last hop hi hlast hp ht => ?_, fun s w last hop hlast => ?_⟩
  · obtain ⟨hvalid, hcount, hperiod⟩ := WheelInput.capture_revalidates hi hlast hp ht
    refine ⟨_, ?_, exec_toothCapture w edge hop, ?_⟩
    · simp only [exec, execWheelRevalidated, State.whileOperating_of_operating hop, State.captureTooth_wheel, hi,
        hvalid, occurring]
      rfl
    · rw [State.captureTooth_wheel]
      exact ⟨hvalid, hcount, hperiod⟩
  · simp only [exec, execSilenceExpiry, State.whileOperating_of_operating hop, WheelInput.silenced_eq hlast]
    rfl

end Sys2Proof.Machine
end

section
/-! PROOF. O58, O59, O60: the release, cold and warm, where a hold ends; the load's completion and what follows it. -/
namespace Sys2Proof.Machine

/-! ### What a release leaves (R187, R192) -/

@[simp] theorem State.release_sup (s : State) : s.release.sup = s.sup.released := by
  unfold State.release; split <;> rfl

theorem Sup.released_kind (x : Sup) : x.released.kind = if x.warmContents.isSome then .warm else .cold := rfl

/-- R181, R184, R187: the supervisor's values at a release, the kind by whether there is a record to start from. -/
theorem Sup.releasedFrom_released {x : Sup} {kind : StartKind} (h : x.released.kind = kind) :
    x.released.releasedFrom x kind :=
  ⟨rfl, h, rfl, rfl, rfl, rfl, rfl, rfl, rfl⟩

/-- R187: a release without a record to start from is a cold start. -/
theorem State.release_coldStarted {s : State} (h : s.sup.warmContents = none) : s.release.coldStarted s := by
  have hkind : s.sup.released.kind = .cold := by rw [Sup.released_kind, h]; rfl
  have hrelease : s.release = s.releaseCold := by simp only [State.release, h]
  rw [hrelease]
  exact ⟨rfl, rfl, rfl, rfl, rfl, rfl, rfl, rfl, rfl, Sup.releasedFrom_released hkind⟩

/-- R187: the three tests of a warm start. -/
theorem Sup.warmContents_iff (x : Sup) (c : RecordContents) :
    x.warmContents = some c ↔
      x.record.valid = true ∧ x.outage ≤ 200 ∧ x.record.contents = some c ∧ x.record.check = recordCheck c := by
  unfold Sup.warmContents
  by_cases hlive : x.record.valid = true ∧ x.outage ≤ 200
  · simp [hlive, Option.filter_eq_some_iff]
  · rw [if_neg (by simpa using hlive)]
    simp only [reduceCtorEq, false_iff]
    rintro ⟨hvalid, houtage, _⟩
    exact hlive ⟨hvalid, houtage⟩

/-- R41: the estimate of a warm release, by whether U was 6000. -/
theorem Leu.warm_eq (c : RecordContents) (outage : Nat) :
    Leu.warm c outage = { Leu.cold with
      epoch := c.epoch
      acc := if c.u = 6000 then 0 else c.acc
      conf := if c.u = 6000 then .unset else .settling
      u := if c.u = 6000 then 6000 else min 3000 (500 + outage * 25 / 4) } := by
  unfold Leu.warm
  split <;> rfl

/-- R77, R99, R126: under an IDLE monitor a grant is FULL or SHORT. -/
theorem deriveState_cold (k : GrantKey) (requested granted : Nat) :
    deriveState .cold k requested granted = if granted = requested then .full else .short := rfl

/-- R104, R126: the grants of a warm release. -/
theorem RecordContents.carriedGrant_eq (c : RecordContents) (k : GrantKey) :
    c.carriedGrant k = (c.grants.get k).map fun r => r.carried ((c.monitors.get k.monitor).state == .soft) := by
  unfold RecordContents.carriedGrant
  refine congrArg (fun f => (c.grants.get k).map f) (funext fun r => ?_)
  by_cases hsoft : (c.monitors.get k.monitor).state = .soft
  · simp [hsoft, RetainedGrant.carried, RetainedGrant.restored, Grant.rederive, deriveState_cold]
  · simp [hsoft, RetainedGrant.carried, RetainedGrant.restored]

theorem State.releaseWarm_grant (s : State) (c : RecordContents) (k : GrantKey) :
    (s.releaseWarm c).grant k = (c.grants.get k).map fun r => r.carried ((c.monitors.get k.monitor).state == .soft) := by
  rw [← RecordContents.carriedGrant_eq]
  cases k <;> rfl

/-- R104: a carried grant has the record's force. -/
theorem State.releaseWarm_grantedForce (s : State) (c : RecordContents) (k : GrantKey) :
    (s.releaseWarm c).grantedForce k = (c.grants.get k).map RetainedGrant.granted := by
  rw [State.grantedForce, State.releaseWarm_grant, Option.map_map]
  rfl

/-- R126: the monitors of a warm release. -/
theorem RetainedMonitor.restored_eq (r : RetainedMonitor) :
    r.restored = if r.state = .hard then { Monitor.cold with state := .hard, trigger := r.trigger } else .cold := by
  obtain ⟨state, trigger⟩ := r
  cases state <;> rfl

/-- R139: the lines of a warm release. -/
theorem State.releaseWarm_line (s : State) (c : RecordContents) (l : LineName) :
    (s.releaseWarm c).line l
      = .warm (builtInVehicle.fullScale.get l) ((s.releaseWarm c).grantedForce (keyOf l)) := by
  rw [State.releaseWarm_grantedForce]
  cases l <;> rfl

/-- R187, R192: a release from a record's contents is a warm start. -/
theorem State.release_warmStarted {s : State} {c : RecordContents} (h : s.sup.warmContents = some c) :
    s.release.warmStarted s c := by
  have hkind : s.sup.released.kind = .warm := by rw [Sup.released_kind, h]; rfl
  have hrelease : s.release = s.releaseWarm c := by simp only [State.release, h]
  rw [hrelease]
  refine ⟨rfl, Leu.warm_eq _ _, ⟨rfl, rfl, rfl, rfl⟩, rfl, rfl, s.releaseWarm_grant c, rfl, fun m => ?_,
    s.releaseWarm_line c, rfl, rfl, Sup.releasedFrom_released hkind, rfl⟩
  have hcold : State.reset.monitor m = .cold := by cases m <;> rfl
  rw [hcold, ← RetainedMonitor.restored_eq]
  cases m <;> rfl

/-! ### Where the last hold ends (R180, R182, R183, R184) -/

theorem State.holdEnds_release {s : State} (hstart : s.sup.start = .reset) (htripped : s.sup.tripped = false)
    (hrst : s.sup.rstLow = false) : s.holdEnds = s.release := by
  simp only [State.holdEnds, hstart, htripped, hrst, and_self, if_true]

theorem State.not_operating_of_reset {s : State} (h : s.sup.start = .reset) : s.operating = false := by
  simp only [State.operating, h]

theorem State.not_operating_of_off {s : State} (h : s.sup.start = .off) : s.operating = false := by
  simp only [State.operating, h]

/-- R180: the second sample above 6.5 V at a part held by its supply alone. -/
theorem State.supplySampled_clears {s : State} {mv : Nat} (hstart : s.sup.start = .reset)
    (htripped : s.sup.tripped = true) (hcount : s.sup.tripCount = 1) (hmv : 6500 < mv) (hrst : s.sup.rstLow = false) :
    s.supplySampled mv = (s.setSup { s.sup with tripped := false, tripCount := 0 }).release := by
  have hwarning : s.sampleWarning mv = s := by
    simp [State.sampleWarning, State.whileOperating, State.not_operating_of_reset hstart]
  have hloss : s.sup.sampleLoss mv = { s.sup with tripped := false, tripCount := 0 } := by
    simp [Sup.sampleLoss, htripped, hcount, hmv]
  simp only [State.supplySampled, hwarning, State.sampleLoss, hloss, State.setSup_sup, htripped]
  exact State.holdEnds_release hstart rfl hrst

/-- The two rows of a clearing sample are one event (log 2). -/
theorem exec_supplyClears {s : State} {mv : Nat} (hstart : s.sup.start = .reset)
    (htripped : s.sup.tripped = true) (hcount : s.sup.tripCount = 1) (hmv : 6500 < mv) (hrst : s.sup.rstLow = false) :
    let t := (s.setSup { s.sup with tripped := false, tripCount := 0 }).release
    exec (.supplyLossClear mv) s = .next t ∧ exec (.supplySample mv) s = .next t := by
  have hsampled := State.supplySampled_clears hstart htripped hcount hmv hrst
  constructor
  · simp only [exec, execSupplyLossClear, hsampled, htripped, State.release_sup]
    rfl
  · simp only [exec, execSupplySample, hsampled]
    rfl

/-- R182: the release of the reset line at a part held by it alone. -/
theorem exec_rstNRelease {s : State} (hstart : s.sup.start = .reset) (htripped : s.sup.tripped = false)
    (hrst : s.sup.rstLow = true) : exec .rstNRelease s = .next s.rstReleased.release := by
  have hends : s.rstReleased.holdEnds = s.rstReleased.release := State.holdEnds_release hstart htripped rfl
  simp only [exec, execRstNRelease, hrst, if_true, hends]
  rfl

/-- The supervisor where the ignition's return ends the hold by OFF: the tick has counted the outage (R183, R185). -/
def Sup.ignitionReturned (x : Sup) : Sup :=
  { x with start := .reset, ignHigh := true, ignCount := 0, outage := saturatingSucc 255 x.outage }

/-- R183, R184: the fourth high sample at a part held by its ignition alone. -/
theorem State.retainedTick_returns {s : State} (hstart : s.sup.start = .off) (hign : s.sup.ignHigh = false)
    (hcount : 3 ≤ s.sup.ignCount) (htripped : s.sup.tripped = false) (hrst : s.sup.rstLow = false) :
    s.retainedTick true = (s.setSup s.sup.ignitionReturned).release := by
  have houtage : s.outageTicked = s.setSup { s.sup with outage := saturatingSucc 255 s.sup.outage } := by
    simp [State.outageTicked, State.not_operating_of_off hstart]
  have hfilter : s.outageTicked.sup.sampleIgnition true
      = { s.sup with ignHigh := true, ignCount := 0, outage := saturatingSucc 255 s.sup.outage } := by
    simp [houtage, Sup.sampleIgnition, hign, hcount]
  have hoff : ∀ t : State, t.sup.start = .off → t.offEnds = (t.setSup { t.sup with start := .reset }).holdEnds :=
    fun t ht => by simp only [State.offEnds, ht, if_true]
  simp only [State.retainedTick, State.ignitionSampled, hfilter]
  simp only [houtage, State.setSup_sup, State.setSup_setSup, hign]
  rw [← State.holdEnds_release (s := s.setSup s.sup.ignitionReturned) rfl htripped hrst]
  exact hoff _ hstart

/-- The two rows of the ignition's return are one event (log 2). -/
theorem exec_ignitionReturns {s : State} (hstart : s.sup.start = .off) (hign : s.sup.ignHigh = false)
    (hcount : 3 ≤ s.sup.ignCount) (htripped : s.sup.tripped = false) (hrst : s.sup.rstLow = false) :
    let t := (s.setSup s.sup.ignitionReturned).release
    exec .ignitionOn s = .next t ∧ exec (.retainedMsTick true) s = .next t := by
  have htick := State.retainedTick_returns hstart hign hcount htripped hrst
  constructor
  · simp only [exec, execIgnitionOn, htick, hign, State.release_sup]
    rfl
  · simp only [exec, execRetainedMsTick, htick]
    rfl

/-- Settles O58: each of the three ends of a hold is a release, and a release without contents is a cold start. -/
theorem coldRelease : Obligations.ColdRelease := by
  refine ⟨fun s hstart hcold => ⟨fun mv htripped hcount hmv hrst => ?_, fun htripped hrst => ?_⟩,
    fun s hstart hign hcount htripped hrst hvalid => ?_⟩
  · obtain ⟨hclear, hsample⟩ := exec_supplyClears hstart htripped hcount hmv hrst
    exact ⟨_, hclear, hsample, State.release_coldStarted hcold⟩
  · refine ⟨_, exec_rstNRelease hstart htripped hrst, State.release_coldStarted hcold, ?_⟩
    rw [State.release_sup]; rfl
  · obtain ⟨hon, htick⟩ := exec_ignitionReturns hstart hign hcount htripped hrst
    have hcold : s.sup.ignitionReturned.warmContents = none := by
      simp [Sup.warmContents, Sup.ignitionReturned, hvalid]
    refine ⟨_, hon, htick, State.release_coldStarted hcold, ?_⟩
    rw [State.release_sup]; rfl

/-- Settles O59: a release with contents is a warm start, and there are contents where R187's tests pass. -/
theorem warmRelease : Obligations.WarmRelease := by
  refine ⟨fun s c hstart hwarm => ⟨fun htripped hrst => ?_, fun mv htripped hcount hmv hrst => ?_⟩,
    fun s c hstart htripped hrst => ⟨s.sup.warmContents_iff c, _, exec_rstNRelease hstart htripped hrst, ?_, ?_⟩⟩
  · refine ⟨_, exec_rstNRelease hstart htripped hrst, State.release_warmStarted hwarm, ?_⟩
    rw [State.release_sup]; rfl
  · obtain ⟨hclear, hsample⟩ := exec_supplyClears hstart htripped hcount hmv hrst
    refine ⟨_, hclear, hsample, State.release_warmStarted hwarm, ?_, ?_⟩
    all_goals rw [State.release_sup]; rfl
  · have hkept : s.rstReleased.sup.warmContents = s.sup.warmContents := rfl
    rw [State.release_sup, Sup.released_kind, hkept]
    cases s.sup.warmContents <;> simp
  · rw [State.release_sup]; rfl

/-! ### The load and what follows it (R163, R165, R188, R189, R191) -/

/-- R165: LOCKED unless S3 passes and its lock word does not read 0x00. -/
theorem Memory.lockState_eq (m : Memory) :
    m.lockState = if m.passes .s3 = true ∧ m.read (Sector.base .s3) ≠ 0 then .unlocked else .locked := by
  unfold Memory.lockState
  cases m.passes .s3 with
  | false => rfl
  | true => by_cases h : m.read (Sector.base .s3) = 0 <;> simp [h]

/-- R9: the load works a wheel's speed out again where there is a latest period. -/
theorem WheelInput.reloaded_some {x : WheelInput} {n : Nat} (h : x.period = some n) (c : WorkingCopy) (w : Wheel) :
    x.reloaded c w = { x with speed := min 9000 (c.circumference w * 100000 / (c.teeth w * n)) } := by
  simp only [WheelInput.reloaded, h, wheelSpeed_eq]

theorem WheelInput.reloaded_none {x : WheelInput} (h : x.period = none) (c : WorkingCopy) (w : Wheel) :
    x.reloaded c w = x := by
  simp only [WheelInput.reloaded, h]

/-- The state that a load's completion leaves in LOADING. -/
def State.loaded (s : State) (c : WorkingCopy) : State :=
  { s with
    sif := s.sif.reloaded c
    leu := { s.leu with cycleTimer := some 0 }
    gbu := s.loadedGbu c
    flu := s.loadedFlu c
    gre := s.loadedGre c
    lines := linesReloaded s.lines c
    cst := s.cst.loaded
    sup := s.sup.loaded c }

theorem exec_loadCompletion {s : State} (h : s.sup.start = .loading) :
    exec .loadCompletion s = .next (s.loaded s.cst.flash.load) := by
  simp only [exec, execLoadCompletion, State.loadCompletes, h, if_true]
  rfl

theorem State.loaded_wheel (s : State) (c : WorkingCopy) (w : Wheel) :
    (s.loaded c).wheel w = (s.wheel w).reloaded c w := by
  cases w <;> rfl

theorem State.loaded_line (s : State) (c : WorkingCopy) (l : LineName) :
    (s.loaded c).line l = { s.line l with fullScale := c.fullScale l }.deliver (s.line l).carried := by
  cases l <;> rfl

/-- R62, R73, R103: the load after a cold start. -/
theorem State.loaded_cold {s : State} (h : s.sup.kind = .cold) (c : WorkingCopy) :
    (s.loaded c).gbu.settings = ⟨c.defaultProfile, none, c.defaultClass, c.defaultPolicy⟩
      ∧ (s.loaded c).gre.policy = c.defaultPolicy ∧ (s.loaded c).flu.learned = c.muNom c.defaultProfile := by
  simp only [State.loaded, State.loadedGbu, State.loadedGre, State.loadedFlu, h]
  exact ⟨rfl, trivial, trivial⟩

/-- R63, R74, R104: the load after a warm start. -/
theorem State.loaded_warm {s : State} (h : s.sup.kind = .warm) (c : WorkingCopy) :
    (s.loaded c).gbu = s.gbu ∧ (s.loaded c).gre = s.gre
      ∧ (s.loaded c).flu.learned = learnedFriction c.recoverCycles (c.muNom s.profile) s.flu.events := by
  simp only [State.loaded, State.loadedGbu, State.loadedGre, State.loadedFlu, h, and_self]

/-- The load moves neither the slip events nor the grants, whatever the start. -/
theorem State.loaded_keeps (s : State) (c : WorkingCopy) :
    (s.loaded c).flu.events = s.flu.events ∧ (s.loaded c).gre.grants = s.gre.grants := by
  cases h : s.sup.kind <;> simp [State.loaded, State.loadedGre, State.loadedFlu, h]

/-- Settles O60: the load by `exec_loadCompletion` and what `State.loaded` does to each block, then the two expiries. -/
theorem loadAndAfter : Obligations.LoadAndAfter := by
  refine ⟨fun s c hstart hc => ?_, fun s hstart => ?_, fun s c hop hcopy => ?_⟩
  · subst hc
    obtain ⟨hevents, hgrants⟩ := s.loaded_keeps s.cst.flash.load
    refine ⟨_, exec_loadCompletion hstart, ?_, rfl, rfl, s.loaded_line _, fun h => State.loaded_cold h _,
      fun h => State.loaded_warm h _, rfl, fun w => ?_, rfl, rfl, hevents, hgrants⟩
    · rw [← Memory.lockState_eq]; rfl
    · rw [State.loaded_wheel]
      exact ⟨fun h => WheelInput.reloaded_none h _ _, fun n h => WheelInput.reloaded_some h _ _⟩
  · simp only [exec, execSensorWaitExpiry, hstart, if_true]
    rfl
  · simp only [exec, execRetainedRewriteCompletion, State.whileOperating_of_operating hop, State.rewriteCompletes,
      hcopy]
    rfl

end Sys2Proof.Machine
end

section
/-! PROOF. O17: one microsecond of the time base, and a cycle timer's expiry at which no port goes LOST. -/
namespace Sys2Proof.Machine

/-! ### The silence counts (R149) -/

/-- R149: below its limit a port's silence count rises while the port is UP. -/
theorem Port.silenceRises_below {x : Port} (h : x.state = .up → x.silence + 1 < 12) :
    x.silenceRises = if x.state = .up then { x with silence := x.silence + 1 } else x := by
  unfold Port.silenceRises
  split
  · rename_i hup
    rw [if_neg (by have := h hup; omega)]
  · rfl

theorem Port.silenceRises_below_state {x : Port} (h : x.state = .up → x.silence + 1 < 12) :
    x.silenceRises.state = x.state := by
  rw [Port.silenceRises_below h]
  split <;> rfl

/-- A port whose count stays below its limit takes the expiry by itself: nothing else moves. -/
theorem State.silenceRises_below {s : State} {p : PortName} (h : (s.port p).state = .up → (s.port p).silence + 1 < 12) :
    s.silenceRises p = s.setPort p (s.port p).silenceRises := by
  unfold State.silenceRises
  dsimp only
  rw [State.port_setPort_same, Port.silenceRises_below_state h, if_neg]
  rintro ⟨hup, hlost⟩
  rw [hup] at hlost
  cases hlost

/-- The three ports take an expiry one after another (log 9), each as if alone. -/
theorem State.silenceRises_all {s : State} (h : ∀ p, (s.port p).state = .up → (s.port p).silence + 1 < 12) :
    ((s.silenceRises .e).silenceRises .b).silenceRises .c = s.setPorts (s.ports.map Port.silenceRises) := by
  have he := State.silenceRises_below (h .e)
  have hb := State.silenceRises_below (s := s.silenceRises .e) (p := .b) (by rw [he]; exact h .b)
  have hc := State.silenceRises_below (s := (s.silenceRises .e).silenceRises .b) (p := .c) (by rw [hb, he]; exact h .c)
  rw [hc, hb, he]
  rfl

/-- R3, R20: the expiry of a cycle timer that runs. -/
theorem exec_cycleTimerExpiry {s : State} {n : Nat} (hop : s.operating = true) (htimer : s.leu.cycleTimer = some n)
    (h : ∀ p, (s.port p).state = .up → (s.port p).silence + 1 < 12) :
    exec .cycleTimerExpiry s = .next { s with
      leu := { s.leu with cycleTimer := some 0 }
      sif := { s.sif with transaction := true, mosi := blockCommand }
      ports := s.ports.map Port.silenceRises } := by
  simp only [exec, execCycleTimerExpiry, State.whileOperating_of_operating hop, State.cycleTimerExpires, htimer]
  exact congrArg go (State.silenceRises_all (s := { s with
    leu := { s.leu with cycleTimer := some 0 }
    sif := { s.sif with transaction := true, mosi := blockCommand } }) h)

/-! ### A microsecond (R10, R20, R142, R170, R189) -/

theorem step_of_empty {s : State} (h : s.pending = []) : step s = .next s.tick := by
  simp only [step, h]

/-- Settles O17: `State.ticked` block by block, and `exec_cycleTimerExpiry` port by port. -/
theorem cycleTimerExpires : Obligations.CycleTimerExpires := by
  refine ⟨fun s hempty hheld => ?_, fun s hempty hop => ?_, fun s n hop htimer h => ?_⟩
  · rw [step_of_empty hempty, State.tick, State.whileOperating, hheld]
    rfl
  · refine ⟨s.ticked, ?_, rfl, rfl, rfl, fun w => ?_, fun p => ?_, rfl, rfl⟩
    · rw [step_of_empty hempty, State.tick, State.whileOperating_of_operating hop]
    · cases w <;> rfl
    · cases p <;> rfl
  · refine ⟨_, exec_cycleTimerExpiry hop htimer h, rfl, rfl, rfl, fun p => ?_⟩
    rw [← Port.silenceRises_below (h p)]
    exact PerPort.get_map _ _ _

end Sys2Proof.Machine
end

section
/-! PROOF. O12: the start state follows from the ignition level, the supply-loss comparator and the reset line, and the two
timers run where they are to. Most commands move none of these six; a hold's start, a hold's end, the load and the end of
SENSOR_WAIT each lead to a start state that agrees with them. -/
namespace Sys2Proof.Machine

/-! ### What the law says, start state by start state (R20, R184, R189) -/

/-- What the law reads: the start state, its three inputs, and whether each timer runs. -/
def State.starts (s : State) : StartState × Bool × Bool × Bool × Bool × Bool :=
  (s.sup.start, s.sup.ignHigh, s.sup.tripped, s.sup.rstLow, s.sup.sensorWait.isSome, s.leu.cycleTimer.isSome)

theorem State.startAgrees_of_starts {s t : State} (h : t.starts = s.starts) (hs : s.startAgrees = true) :
    t.startAgrees = true := by
  simp only [State.starts, Prod.mk.injEq] at h
  obtain ⟨hstart, hign, htripped, hrst, hwait, htimer⟩ := h
  simpa only [State.startAgrees, hstart, hign, htripped, hrst, hwait, htimer] using hs

/-- Neither timer runs. -/
def State.timersRest (s : State) : Prop := s.sup.sensorWait = none ∧ s.leu.cycleTimer = none

section
variable {s : State}

theorem State.startAgrees_off (h : s.sup.start = .off) :
    s.startAgrees = true ↔ s.sup.ignHigh = false ∧ s.timersRest := by
  simp [State.startAgrees, State.timersRest, h, beq_eq_decide, and_assoc]

theorem State.startAgrees_reset (h : s.sup.start = .reset) :
    s.startAgrees = true ↔ s.sup.ignHigh = true ∧ (s.sup.tripped = true ∨ s.sup.rstLow = true) ∧ s.timersRest := by
  simp [State.startAgrees, State.timersRest, h, beq_eq_decide, and_assoc]

/-- The ignition is on and nothing holds the part (R184). -/
def Sup.clear (x : Sup) : Prop := x.ignHigh = true ∧ x.tripped = false ∧ x.rstLow = false

theorem State.startAgrees_loading (h : s.sup.start = .loading) :
    s.startAgrees = true ↔ s.sup.clear ∧ s.timersRest := by
  simp [State.startAgrees, State.timersRest, Sup.clear, h, beq_eq_decide, and_assoc]

theorem State.startAgrees_sensorWait (h : s.sup.start = .sensorWait) :
    s.startAgrees = true ↔ s.sup.clear ∧ s.sup.sensorWait.isSome = true ∧ s.leu.cycleTimer.isSome = true := by
  simp [State.startAgrees, Sup.clear, h, beq_eq_decide, and_assoc]

theorem State.startAgrees_running (h : s.sup.start = .running) :
    s.startAgrees = true ↔ s.sup.clear ∧ s.sup.sensorWait = none ∧ s.leu.cycleTimer.isSome = true := by
  simp [State.startAgrees, Sup.clear, h, beq_eq_decide, and_assoc]

theorem State.clear_of_operating (hs : s.startAgrees = true) (hop : s.operating = true) : s.sup.clear := by
  cases h : s.sup.start with
  | off => simp [State.operating, h] at hop
  | reset => simp [State.operating, h] at hop
  | loading => exact ((State.startAgrees_loading h).mp hs).1
  | sensorWait => exact ((State.startAgrees_sensorWait h).mp hs).1
  | running => exact ((State.startAgrees_running h).mp hs).1

theorem State.not_operating_iff : s.operating = false ↔ s.sup.start = .off ∨ s.sup.start = .reset := by
  cases h : s.sup.start <;> simp [State.operating, h]

theorem State.timersRest_of_held (hs : s.startAgrees = true) (hheld : s.operating = false) : s.timersRest := by
  rcases State.not_operating_iff.mp hheld with h | h
  · exact ((State.startAgrees_off h).mp hs).2
  · exact ((State.startAgrees_reset h).mp hs).2.2

/-- R184: a part whose ignition is off is in OFF. -/
theorem State.off_of_ignition (hs : s.startAgrees = true) (hign : s.sup.ignHigh = false) : s.sup.start = .off := by
  by_cases hop : s.operating = true
  · exact absurd (State.clear_of_operating hs hop).1 (by simp [hign])
  · rcases State.not_operating_iff.mp (Bool.eq_false_of_not_eq_true hop) with h | h
    · exact h
    · exact absurd ((State.startAgrees_reset h).mp hs).1 (by simp [hign])

/-- R184: a part in RESET has its ignition on. -/
theorem State.ignition_of_reset (hs : s.startAgrees = true) (h : s.sup.start = .reset) : s.sup.ignHigh = true :=
  ((State.startAgrees_reset h).mp hs).1

theorem State.ignition_of_off (hs : s.startAgrees = true) (h : s.sup.start = .off) : s.sup.ignHigh = false :=
  ((State.startAgrees_off h).mp hs).1

/-- A hold stands at a held part alone. -/
theorem State.held_of_hold (hs : s.startAgrees = true) (h : s.sup.tripped = true ∨ s.sup.rstLow = true) :
    s.operating = false := by
  refine Bool.eq_false_of_not_eq_true fun hop => ?_
  obtain ⟨_, htripped, hrst⟩ := State.clear_of_operating hs hop
  rcases h with h | h
  · simp [htripped] at h
  · simp [hrst] at h

/-! ### Holds and releases -/

/-- R42, R184, R189: blocks that have stopped run no timer; what the start state follows from stands. -/
theorem State.stopBlocks_timersRest (s : State) : s.stopBlocks.timersRest := by
  refine ⟨?_, rfl⟩
  simp only [State.stopBlocks, Sup.stopped]
  split <;> rfl

theorem Sup.stopped_inputs (x : Sup) :
    x.stopped.ignHigh = x.ignHigh ∧ x.stopped.tripped = x.tripped ∧ x.stopped.rstLow = x.rstLow := by
  unfold Sup.stopped
  split <;> exact ⟨rfl, rfl, rfl⟩

theorem State.stopped_timersRest (hheld : s.operating = false → s.timersRest) : s.stopped.timersRest := by
  unfold State.stopped
  split
  · exact s.stopBlocks_timersRest
  · exact hheld (Bool.eq_false_of_not_eq_true ‹_›)

theorem State.stopped_ignHigh (s : State) : s.stopped.sup.ignHigh = s.sup.ignHigh := by
  unfold State.stopped
  split
  · exact (Sup.stopped_inputs _).1
  · rfl

/-- R184: a hold that has begun takes an operating part into RESET; a held one stays as it is. -/
theorem State.enterReset_startAgrees {cause : EntryCause} (hign : s.operating = true → s.sup.ignHigh = true)
    (hhold : s.sup.tripped = true ∨ s.sup.rstLow = true) (hheld : s.operating = false → s.startAgrees = true) :
    (s.enterReset cause).startAgrees = true := by
  unfold State.enterReset
  split
  · rename_i hop
    obtain ⟨hignStopped, htripped, hrst⟩ := s.sup.stopped_inputs
    refine (State.startAgrees_reset rfl).mpr ⟨hignStopped.trans (hign hop), ?_, s.stopBlocks_timersRest⟩
    exact hhold.imp htripped.trans hrst.trans
  · exact hheld (Bool.eq_false_of_not_eq_true ‹_›)

/-- R183, R184: the part enters OFF. -/
theorem State.enterOff_startAgrees (hign : s.sup.ignHigh = false) (hheld : s.operating = false → s.timersRest) :
    s.enterOff.startAgrees = true :=
  (State.startAgrees_off rfl).mpr ⟨s.stopped_ignHigh.trans hign, State.stopped_timersRest hheld⟩

theorem Leu.warm_cycleTimer (c : RecordContents) (outage : Nat) : (Leu.warm c outage).cycleTimer = none := by
  rw [Leu.warm_eq]; rfl

/-- R40, R41, R184, R187: a release, cold or warm, of a part that nothing holds. -/
theorem State.release_startAgrees (h : s.sup.clear) : s.release.startAgrees = true := by
  have htimer : s.release.leu.cycleTimer = none := by
    unfold State.release
    split
    · exact Leu.warm_cycleTimer _ _
    · rfl
  refine (State.startAgrees_loading (by rw [State.release_sup]; rfl)).mpr ⟨?_, ?_, htimer⟩
  all_goals rw [State.release_sup]
  · exact h
  · rfl

/-- R184: where a hold has been lifted, the part is released when it was in RESET and no other hold remains. -/
theorem State.holdEnds_startAgrees (hheld : s.operating = false) (hrest : s.timersRest)
    (hoff : s.sup.start = .off → s.sup.ignHigh = false) (hreset : s.sup.start = .reset → s.sup.ignHigh = true) :
    s.holdEnds.startAgrees = true := by
  unfold State.holdEnds
  split
  · rename_i hfree
    obtain ⟨hstart, htripped, hrst⟩ := hfree
    exact State.release_startAgrees ⟨hreset hstart, htripped, hrst⟩
  · rename_i hfree
    rcases State.not_operating_iff.mp hheld with h | h
    · exact (State.startAgrees_off h).mpr ⟨hoff h, hrest⟩
    · refine (State.startAgrees_reset h).mpr ⟨hreset h, ?_, hrest⟩
      by_contra hnone
      simp only [not_or, Bool.not_eq_true] at hnone
      exact hfree ⟨h, hnone⟩

/-! ### A sense changed (R180, R181, R182, R183) -/

/-- Two supervisors that may differ in what they sense, but for the ignition. -/
def Sup.standsAs (x y : Sup) : Prop := x.start = y.start ∧ x.ignHigh = y.ignHigh ∧ x.sensorWait = y.sensorWait

theorem State.setSup_operating {x : Sup} (h : x.start = s.sup.start) : (s.setSup x).operating = s.operating := by
  simp only [State.operating, State.setSup_sup, h]

/-- R180, R182: a hold begins: its sense is set, and an operating part enters RESET. -/
theorem State.holdBegins_startAgrees (hs : s.startAgrees = true) {x : Sup} (hx : x.standsAs s.sup)
    (hhold : x.tripped = true ∨ x.rstLow = true) (cause : EntryCause) :
    ((s.setSup x).enterReset cause).startAgrees = true := by
  obtain ⟨hstart, hign, hwait⟩ := hx
  have hop := State.setSup_operating hstart
  refine State.enterReset_startAgrees (fun h => hign.trans (State.clear_of_operating hs (hop ▸ h)).1) hhold fun h => ?_
  obtain ⟨hrestWait, hrestTimer⟩ := State.timersRest_of_held hs (hop ▸ h)
  rcases State.not_operating_iff.mp h with h | h
  · exact (State.startAgrees_off h).mpr
      ⟨hign.trans (State.ignition_of_off hs (hstart ▸ h)), hwait.trans hrestWait, hrestTimer⟩
  · exact (State.startAgrees_reset h).mpr
      ⟨hign.trans (State.ignition_of_reset hs (hstart ▸ h)), hhold, hwait.trans hrestWait, hrestTimer⟩

/-- R180, R182, R184: a hold of a held part is lifted. -/
theorem State.holdLifted_startAgrees (hs : s.startAgrees = true) (hheld : s.operating = false) {x : Sup}
    (hx : x.standsAs s.sup) : (s.setSup x).holdEnds.startAgrees = true := by
  obtain ⟨hstart, hign, hwait⟩ := hx
  obtain ⟨hrestWait, hrestTimer⟩ := State.timersRest_of_held hs hheld
  exact State.holdEnds_startAgrees ((State.setSup_operating hstart).trans hheld) ⟨hwait.trans hrestWait, hrestTimer⟩
    (fun h => hign.trans (State.ignition_of_off hs (hstart ▸ h)))
    (fun h => hign.trans (State.ignition_of_reset hs (hstart ▸ h)))

theorem Sup.sampleWarning_eq (x : Sup) (mv : Nat) :
    ∃ low count, x.sampleWarning mv = { x with low := low, lowCount := count } := by
  unfold Sup.sampleWarning
  split_ifs <;> exact ⟨_, _, rfl⟩

theorem Sup.sampleLoss_eq (x : Sup) (mv : Nat) :
    ∃ tripped count, x.sampleLoss mv = { x with tripped := tripped, tripCount := count } := by
  unfold Sup.sampleLoss
  split_ifs <;> exact ⟨_, _, rfl⟩

theorem Sup.sampleIgnition_eq (x : Sup) (high : Bool) :
    ∃ level count, x.sampleIgnition high = { x with ignHigh := level, ignCount := count } := by
  unfold Sup.sampleIgnition
  split_ifs <;> exact ⟨_, _, rfl⟩

/-- R181: the warning comparator decides nothing about the start. -/
theorem State.sampleWarning_startAgrees (hs : s.startAgrees = true) (mv : Nat) :
    (s.sampleWarning mv).startAgrees = true := by
  obtain ⟨low, count, hsample⟩ := s.sup.sampleWarning_eq mv
  refine State.whileOperating_keeps (P := fun u => u.startAgrees = true) hs (State.startAgrees_of_starts ?_ hs)
  rw [hsample]; rfl

/-- R180: the supply-loss comparator's changes begin and lift a hold. -/
theorem State.sampleLoss_startAgrees (hs : s.startAgrees = true) (mv : Nat) : (s.sampleLoss mv).startAgrees = true := by
  obtain ⟨tripped, count, hsample⟩ := s.sup.sampleLoss_eq mv
  unfold State.sampleLoss
  rw [hsample]
  dsimp only [State.setSup_sup]
  cases hbefore : s.sup.tripped <;> cases tripped
  case false.true =>
    refine State.holdBegins_startAgrees hs ?_ (.inl ?_) _
    exacts [⟨rfl, rfl, rfl⟩, rfl]
  case true.false =>
    exact State.holdLifted_startAgrees hs (State.held_of_hold hs (.inl hbefore)) ⟨rfl, rfl, rfl⟩
  all_goals exact State.startAgrees_of_starts (by simp [State.starts, hbefore]) hs

theorem State.supplySampled_startAgrees (hs : s.startAgrees = true) (mv : Nat) :
    (s.supplySampled mv).startAgrees = true :=
  State.sampleLoss_startAgrees (State.sampleWarning_startAgrees hs mv) mv

/-- R183: the ignition level has fallen. -/
theorem State.ignitionFalls_startAgrees (hs : s.startAgrees = true) (count : Nat) :
    (s.setSup { s.sup with ignHigh := false, ignCount := count }).enterOff.startAgrees = true :=
  State.enterOff_startAgrees rfl fun hheld => State.timersRest_of_held (s := s) hs hheld

theorem State.offEnds_of_off (h : s.sup.start = .off) :
    s.offEnds = (s.setSup { s.sup with start := .reset }).holdEnds := by
  simp only [State.offEnds, h, if_true]

/-- R183, R184: the ignition level has risen, at a part in OFF. -/
theorem State.ignitionRises_startAgrees (hs : s.startAgrees = true) (hign : s.sup.ignHigh = false) (count : Nat) :
    (s.setSup { s.sup with ignHigh := true, ignCount := count }).offEnds.startAgrees = true := by
  have hoff := State.off_of_ignition hs hign
  have hrest := State.timersRest_of_held hs (State.not_operating_of_off hoff)
  have hends := State.offEnds_of_off (s := s.setSup { s.sup with ignHigh := true, ignCount := count }) hoff
  rw [hends]
  exact State.holdEnds_startAgrees rfl hrest nofun fun _ => rfl

theorem State.ignitionSampled_startAgrees (hs : s.startAgrees = true) (high : Bool) :
    (s.ignitionSampled high).startAgrees = true := by
  obtain ⟨level, count, hsample⟩ := s.sup.sampleIgnition_eq high
  unfold State.ignitionSampled
  rw [hsample]
  dsimp only [State.setSup_sup]
  cases hbefore : s.sup.ignHigh <;> cases level
  case true.false => exact State.ignitionFalls_startAgrees hs count
  case false.true => exact State.ignitionRises_startAgrees hs hbefore count
  all_goals exact State.startAgrees_of_starts (by simp [State.starts, hbefore]) hs

/-- R183, R185: a tick of the retained domain counts an outage, which decides nothing here, and samples the ignition. -/
theorem State.retainedTick_startAgrees (hs : s.startAgrees = true) (high : Bool) :
    (s.retainedTick high).startAgrees = true := by
  refine State.ignitionSampled_startAgrees ?_ high
  unfold State.outageTicked
  split
  · exact hs
  · exact State.startAgrees_of_starts rfl hs

/-- A command of the supervisor's senses keeps the start state in agreement with them. -/
theorem exec_supervision_startAgrees {c : Instr} (hc : c.isSupervision = true) (hs : s.startAgrees = true) :
    LeadsTo (fun t => t.startAgrees = true) (exec c s) := by
  cases c with
  | supplySample mv => exact leadsTo_go (State.supplySampled_startAgrees hs mv)
  | supplyLossTrip mv => exact leadsTo_occurring hs (State.supplySampled_startAgrees hs mv)
  | supplyLossClear mv => exact leadsTo_occurring hs (State.supplySampled_startAgrees hs mv)
  | lowSupplySet mv => exact leadsTo_occurring hs (State.supplySampled_startAgrees hs mv)
  | lowSupplyClear mv => exact leadsTo_occurring hs (State.supplySampled_startAgrees hs mv)
  | rstNAssert =>
    refine leadsTo_go (State.holdBegins_startAgrees hs ?_ (.inr ?_) _)
    exacts [⟨rfl, rfl, rfl⟩, rfl]
  | mainDomainPowerUp =>
    refine leadsTo_go (State.holdBegins_startAgrees hs ?_ (.inl ?_) _)
    exacts [⟨rfl, rfl, rfl⟩, rfl]
  | rstNRelease =>
    refine leadsTo_go ?_
    split
    · rename_i hrst
      exact State.holdLifted_startAgrees hs (State.held_of_hold hs (.inr hrst)) ⟨rfl, rfl, rfl⟩
    · exact hs
  | retainedMsTick high => exact leadsTo_go (State.retainedTick_startAgrees hs high)
  | ignitionOff => exact leadsTo_occurring hs (State.retainedTick_startAgrees hs false)
  | ignitionOn => exact leadsTo_occurring hs (State.retainedTick_startAgrees hs true)
  | retainedDomainPowerUp =>
    exact leadsTo_go ((State.startAgrees_off rfl).mpr
      ⟨rfl, State.stopped_timersRest fun hheld => State.timersRest_of_held hs hheld⟩)
  | _ => cases hc

/-! ### The operating part -/

/-- R188: the load takes LOADING into SENSOR_WAIT and starts both timers. -/
theorem State.loadCompletes_startAgrees (hs : s.startAgrees = true) : s.loadCompletes.startAgrees = true := by
  unfold State.loadCompletes
  split
  · rename_i hstart
    exact (State.startAgrees_sensorWait rfl).mpr ⟨((State.startAgrees_loading hstart).mp hs).1, rfl, rfl⟩
  · exact hs

/-- R189: SENSOR_WAIT ends: its limit stops, and the cycle timer runs on. -/
theorem State.endSensorWait_startAgrees (hs : s.startAgrees = true) (hstart : s.sup.start = .sensorWait) :
    s.endSensorWait.startAgrees = true := by
  obtain ⟨hclear, _, htimer⟩ := (State.startAgrees_sensorWait hstart).mp hs
  exact (State.startAgrees_running rfl).mpr ⟨hclear, rfl, htimer⟩

/-- R7, R189: a completed sample ends SENSOR_WAIT when it is valid, and moves nothing else of these. -/
theorem State.sampleCompleted_startAgrees (hs : s.startAgrees = true) : s.sampleCompleted.startAgrees = true := by
  by_cases h : s.sup.start = .sensorWait ∧ s.sif.sample.imuValid = true
  · refine State.startAgrees_of_starts ?_ (State.endSensorWait_startAgrees hs h.1)
    rw [State.sampleCompleted_eq, if_pos h]; rfl
  · refine State.startAgrees_of_starts ?_ hs
    rw [State.sampleCompleted_eq, if_neg h]; rfl

theorem State.transactionCompletes_startAgrees (hs : s.startAgrees = true) (block : Vector Byte 16) :
    (s.transactionCompletes block).startAgrees = true := by
  unfold State.transactionCompletes
  split
  · exact State.sampleCompleted_startAgrees (State.startAgrees_of_starts rfl hs)
  · exact hs

theorem State.starts_of_senses {t : State} (h : t.senses = s.senses) : t.starts = s.starts := by
  obtain ⟨_, hleu, hsup⟩ := State.senses_eq_iff.mp h
  simp only [State.starts, hleu, hsup]

/-- R20: the cycle timer's expiry restarts it. -/
theorem State.cycleTimerExpires_starts (s : State) : s.cycleTimerExpires.starts = s.starts := by
  unfold State.cycleTimerExpires
  split
  · rfl
  · rename_i htimer
    have hports (t : State) : (((t.silenceRises .e).silenceRises .b).silenceRises .c).starts = t.starts :=
      State.starts_of_senses (by simp only [State.silenceRises_senses])
    exact (hports _).trans (by simp [State.starts, htimer])

theorem State.captureTooth_starts (s : State) (w : Wheel) (edge : Nat) : (s.captureTooth w edge).starts = s.starts :=
  (State.starts_of_senses (State.handOnCapture_senses (s.setWheel w _) _ _ _ _)).trans rfl

@[simp] theorem Leu.publish_cycleTimer (x : Leu) (c : WorkingCopy) (r : SampleRecord) (invalidRun : Nat) :
    (x.publish c r invalidRun).cycleTimer = x.cycleTimer := by
  unfold Leu.publish
  split <;> rfl

/-- R22: a publication leaves the cycle timer and the supervisor alone. -/
theorem State.publishEstimate_starts (s : State) : s.publishEstimate.starts = s.starts := by
  have ht : (s.setLeu (s.leu.publish s.params s.sif.sample s.sif.invalidRun)).starts = s.starts := by
    simp [State.starts]
  unfold State.publishEstimate
  split
  · rfl
  · dsimp only
    split
    · exact ht
    · exact (State.starts_of_senses (State.monitorsPublication_senses _ _)).trans ht

theorem State.completeReevaluation_starts (s : State) : s.completeReevaluation.starts = s.starts := by
  unfold State.completeReevaluation
  split
  · calc s.countDown.reshare.freeEngine.queueStatus.startRewrite.starts
      _ = s.countDown.reshare.freeEngine.queueStatus.starts := rfl
      _ = s.starts := State.starts_of_senses (by simp)
  · rfl

theorem State.rewriteCompletes_starts (s : State) : s.rewriteCompletes.starts = s.starts := by
  unfold State.rewriteCompletes
  split <;> rfl

end

/-! ### Every step -/

theorem exec_startAgrees {c : Instr} {s : State} (hs : s.startAgrees = true) :
    LeadsTo (fun t => t.startAgrees = true) (exec c s) := by
  by_cases hquiet : c.movesSenses = false
  · exact fun t ht => State.startAgrees_of_starts (State.starts_of_senses (exec_senses c s hquiet t ht)) hs
  by_cases hsup : c.isSupervision = true
  · exact exec_supervision_startAgrees hsup hs
  have hc : (c.movesSenses && !c.isSupervision) = true := by
    rw [Bool.eq_true_of_not_eq_false hquiet, Bool.eq_false_of_not_eq_true hsup]; rfl
  have hkeeps {t : State} (ht : t.starts = s.starts) := State.startAgrees_of_starts ht hs
  have hwhile {t : State} (ht : t.starts = s.starts) : (s.whileOperating t).startAgrees = true :=
    State.whileOperating_keeps (P := fun u => u.startAgrees = true) hs (hkeeps ht)
  have hestimate : s.estimateStep.startAgrees = true := hwhile s.publishEstimate_starts
  cases c with
  | cycleTimerExpiry => exact leadsTo_go (hwhile s.cycleTimerExpires_starts)
  | silenceCountExpiry p => exact leadsTo_occurring hs (hwhile s.cycleTimerExpires_starts)
  | transactionCompletion block => exact leadsTo_operating hs (State.transactionCompletes_startAgrees hs block)
  | toothCapture w edge => exact leadsTo_go (hwhile (s.captureTooth_starts w edge))
  | wheelRevalidated w edge => exact leadsTo_occurring hs (hwhile (s.captureTooth_starts w edge))
  | silenceExpiry w => exact leadsTo_go (hwhile rfl)
  | estimatePublication => exact leadsTo_go hestimate
  | coastCountExpiry => exact leadsTo_occurring hs hestimate
  | settlingGoodCountReached => exact leadsTo_occurring hs hestimate
  | delayCountExpiry m => exact leadsTo_occurring hs hestimate
  | softHoldExpiry m => exact leadsTo_occurring hs hestimate
  | blankingExpiry m => exact leadsTo_occurring hs hestimate
  | hardAutoEnd m => exact leadsTo_occurring hs hestimate
  | reevaluationCompletion => exact leadsTo_go (hwhile s.completeReevaluation_starts)
  | grantCountdownExpiry k => exact leadsTo_occurring hs (hwhile s.completeReevaluation_starts)
  | retainedRewriteCompletion => exact leadsTo_go (hwhile s.rewriteCompletes_starts)
  | loadCompletion => exact leadsTo_go (State.loadCompletes_startAgrees hs)
  | sensorWaitExpiry =>
    refine leadsTo_go ?_
    split
    · exact State.endSensorWait_startAgrees hs ‹_›
    · exact hs
  | _ => cases hc

/-- R20, R189: a count of the time base stops neither timer. -/
theorem State.ticked_starts (s : State) : s.ticked.starts = s.starts := by
  simp [State.starts, State.ticked, Leu.tick, Sup.tick, countUp]

/-- Settles O12: each command keeps the agreement (`exec_startAgrees`), and so does the tick of an empty queue. -/
theorem startStateKept : Obligations.StartStateKept := by
  intro s t hstep hs
  unfold step at hstep
  split at hstep
  · rename_i rest _
    exact exec_startAgrees (State.startAgrees_of_starts (t := s.setPending rest) rfl hs) t hstep
  · obtain rfl : s.tick = t := by simpa using hstep
    exact State.whileOperating_keeps (P := fun u => u.startAgrees = true) hs
      (State.startAgrees_of_starts s.ticked_starts hs)

end Sys2Proof.Machine
end

section
/-! PROOF. O23: what a publication of the estimate carries, and what it leaves alone. -/
namespace Sys2Proof.Machine

/-! ### The monitors' taking of a publication moves the clamps' blocks alone (R111) -/

section
variable (s : State)

@[simp] theorem State.triggerSoft_besideClamps (m : MonitorName) (e : Word16) :
    (s.triggerSoft m e).besideClamps = s.besideClamps := by
  simp only [State.besideClamps, State.mk.injEq]
  rw [State.triggerSoft_gre]
  simp

@[simp] theorem State.blankAfterClamp_besideClamps (m : MonitorName) :
    (s.blankAfterClamp m).besideClamps = s.besideClamps :=
  s.endClamp_besideClamps _ _

@[simp] theorem State.armedPublication_besideClamps (m : MonitorName) (x : Int) (e : Word16) :
    (s.armedPublication m x e).besideClamps = s.besideClamps := by
  unfold State.armedPublication
  split
  · simp
  · split
    · split <;> simp
    · simp

@[simp] theorem State.delayingPublication_besideClamps (m : MonitorName) (x : Int) (e : Word16) :
    (s.delayingPublication m x e).besideClamps = s.besideClamps := by
  unfold State.delayingPublication
  split
  · simp
  · split
    · split <;> simp
    · simp

@[simp] theorem State.softPublication_besideClamps (m : MonitorName) (x : Int) (e : Word16) :
    (s.softPublication m x e).besideClamps = s.besideClamps := by
  unfold State.softPublication
  split
  · simp
  · split
    · simp
    · split <;> simp

@[simp] theorem State.hardPublication_besideClamps (m : MonitorName) (x : Option Int) :
    (s.hardPublication m x).besideClamps = s.besideClamps := by
  unfold State.hardPublication
  split <;> simp

@[simp] theorem State.blankingPublication_besideClamps (m : MonitorName) (x : Int) (e : Word16) :
    (s.blankingPublication m x e).besideClamps = s.besideClamps := by
  unfold State.blankingPublication
  split
  · simp
  · split <;> simp

@[simp] theorem State.actOnPublication_besideClamps (m : MonitorName) (p : Publication) :
    (s.actOnPublication m p).besideClamps = s.besideClamps := by
  unfold State.actOnPublication
  split
  · simp
  all_goals split <;> simp

@[simp] theorem State.monitorPublication_besideClamps (p : Publication) (m : MonitorName) :
    (s.monitorPublication p m).besideClamps = s.besideClamps := by
  simp [State.monitorPublication]

@[simp] theorem State.monitorsPublication_besideClamps (p : Publication) :
    (s.monitorsPublication p).besideClamps = s.besideClamps := by
  simp [State.monitorsPublication]

theorem State.monitorsPublication_leu (p : Publication) : (s.monitorsPublication p).leu = s.leu :=
  (State.senses_eq_iff.mp (s.monitorsPublication_senses p)).2.1

end

/-! ### What a computation publishes (R21, R22, R39) -/

/-- The lean estimation unit after the computation in flight, its record apart. -/
def State.computed (s : State) : Leu :=
  match s.leu.work with
  | .idle => s.leu
  | .ordinary => s.leu.compute s.params s.sif.sample s.sif.invalidRun
  | .sensorWait => s.leu.computeWaiting s.sif.sample

/-- LEAN_SAT of the computation in flight: none under R39, else by the state published (R30; log 12). -/
def State.computedSat (s : State) : Bool :=
  match s.leu.work with
  | .idle | .sensorWait => false
  | .ordinary =>
    leanSat s.computed.conf (s.leu.clampActed (s.leu.decide s.sif.sample s.sif.invalidRun) s.sif.sample
      (referenceLean s.params s.sif.sample))

theorem State.computed_ordinary {s : State} (h : s.leu.work = .ordinary) :
    s.computed = s.leu.compute s.params s.sif.sample s.sif.invalidRun := by
  simp only [State.computed, h]

theorem State.computed_sensorWait {s : State} (h : s.leu.work = .sensorWait) :
    s.computed = s.leu.computeWaiting s.sif.sample := by
  simp only [State.computed, h]

/-- The publication of the computation in flight: its record, with the sample it was computed from (R21). -/
def State.estimated (s : State) : Publication :=
  ⟨s.computed.record s.params s.sif.sample s.computedSat, s.sif.sample⟩

theorem State.publish_eq {s : State} (hwork : s.leu.work ≠ .idle) :
    s.leu.publish s.params s.sif.sample s.sif.invalidRun = { s.computed with published := some s.estimated } := by
  unfold State.estimated State.computedSat State.computed Leu.publish
  cases h : s.leu.work with
  | idle => exact absurd h hwork
  | ordinary => rfl
  | sensorWait => rfl

/-- R21, R51, R111: a publication replaces the estimate record, starts a budget computation and is taken by the
monitors. -/
theorem State.publishEstimate_eq {s : State} (hwork : s.leu.work ≠ .idle) :
    s.publishEstimate =
      ((s.setLeu { s.computed with published := some s.estimated }).setGbu
        { s.gbu with working := true, read := none }).monitorsPublication s.estimated := by
  unfold State.publishEstimate
  rw [if_neg hwork, State.publish_eq hwork]
  rfl

theorem exec_estimatePublication (s : State) : exec .estimatePublication s = .next s.estimateStep := rfl

section
variable {s : State} (hop : s.operating = true) (hwork : s.leu.work ≠ .idle)
include hop hwork

theorem State.estimateStep_leu :
    s.estimateStep.leu = { s.computed with published := some s.estimated } := by
  rw [State.estimateStep, State.whileOperating_of_operating hop, State.publishEstimate_eq hwork,
    State.monitorsPublication_leu]
  rfl

theorem State.estimateStep_published : s.estimateStep.leu.published = some s.estimated := by
  rw [State.estimateStep_leu hop hwork]

/-- R21, R51: a publication leaves all but the unit itself, the budget computation it starts and the clamps' blocks. -/
theorem State.estimateStep_frame :
    s.estimateStep = { s with
      leu := s.estimateStep.leu
      gbu := { s.gbu with working := true, read := none }
      slm := s.estimateStep.slm
      flu := s.estimateStep.flu
      lines := s.estimateStep.lines
      gre := { s.gre with grants := s.estimateStep.gre.grants } } := by
  rw [State.estimateStep_leu hop hwork, State.estimateStep, State.whileOperating_of_operating hop,
    State.publishEstimate_eq hwork]
  exact State.eq_of_besideClamps (State.monitorsPublication_besideClamps _ _)

end

/-! ### The reference (R26, R27, R28) -/

theorem referenceKind_eq (r : SampleRecord) :
    referenceKind r = if r.vRefValid = false then .none else if 500 ≤ r.vRef then .yaw else .gravity := by
  unfold referenceKind
  cases r.vRefValid <;> rfl

theorem referenceLean_of_none {r : SampleRecord} (c : WorkingCopy) (h : referenceKind r = .none) :
    referenceLean c r = 0 := by
  simp only [referenceLean, h]

theorem turningRate_eq (yaw pitch : Int) : turningRate yaw pitch = isqrt (yaw * yaw + pitch * pitch).toNat := by
  have hsum : yaw * yaw + pitch * pitch = ((yaw.natAbs * yaw.natAbs + pitch.natAbs * pitch.natAbs : Nat) : Int) := by
    rw [Nat.cast_add, Int.natAbs_mul_self, Int.natAbs_mul_self]
  rw [hsum, Int.toNat_natCast, turningRate]

theorem referenceLean_of_yaw {r : SampleRecord} (c : WorkingCopy) (h : referenceKind r = .yaw) {q : Nat}
    (hq : q = min 1732 ((r.vRef
      * isqrt (r.inertial.yaw * r.inertial.yaw + r.inertial.pitch * r.inertial.pitch).toNat * 2986 + 8388608)
        / 16777216)) :
    referenceLean c r = if r.inertial.yaw < 0 then -(arctangentTable q : Int) else arctangentTable q := by
  rw [← turningRate_eq] at hq
  subst hq
  simp only [referenceLean, h]
  rfl

theorem referenceLean_of_gravity {r : SampleRecord} (c : WorkingCopy) (h : referenceKind r = .gravity) :
    referenceLean c r = clampInt (-6000) 6000 (arctangentSigned (clampInt (-1732) 1732
        (truncated (r.inertial.ay * 1000) (clampInt 500 3000 r.inertial.az)))
      - clampInt (-500) 500 c.s0.mountRoll) := by
  simp only [referenceLean, h]
  rfl

/-! ### The records -/

theorem leanSat_of_held {final : Confidence} (acted : Bool)
    (h : final = .unset ∨ final = .coasting ∨ final = .lost) : leanSat final acted = false := by
  rcases h with rfl | rfl | rfl <;> rfl

/-- Settles O23: the publication is `State.estimated`, its frame `State.estimateStep_frame`, its reference by kind. -/
theorem estimatePublished : Obligations.EstimatePublished := by
  refine ⟨fun s hop hordinary => ?_, fun s hop hwaiting => ?_, fun s r hop hwork hr => ?_⟩
  · have hwork : s.leu.work ≠ .idle := by rw [hordinary]; nofun
    have hcomputed := State.computed_ordinary hordinary
    refine ⟨_, s.estimated, rfl, State.estimateStep_published hop hwork, ?_⟩
    have hframe := State.estimateStep_frame hop hwork
    rw [State.estimateStep_leu hop hwork] at hframe ⊢
    refine ⟨?_, ?_, ?_, ?_, rfl, rfl, rfl, rfl, rfl, rfl, rfl, fun hheld => ?_, rfl, rfl, hframe⟩
    · rw [hcomputed]; rfl
    · rw [hcomputed]; rfl
    · rw [hcomputed]; rfl
    · rw [hcomputed]; rfl
    · simp only [State.estimated, Leu.record, State.computedSat, hordinary]
      exact leanSat_of_held _ hheld
  · have hwork : s.leu.work ≠ .idle := by rw [hwaiting]; nofun
    have hcomputed := State.computed_sensorWait hwaiting
    refine ⟨_, s.estimated, rfl, State.estimateStep_published hop hwork, ?_⟩
    have hframe := State.estimateStep_frame hop hwork
    rw [State.estimateStep_leu hop hwork] at hframe ⊢
    refine ⟨?_, rfl, ?_, ?_, ?_, ?_, rfl, rfl, rfl, rfl, ?_, hframe⟩
    · rw [hcomputed]; rfl
    · simp only [State.estimated, hcomputed]; rfl
    · simp only [State.estimated, hcomputed]; rfl
    · simp only [State.estimated, hcomputed]; rfl
    · simp only [State.estimated, Leu.record, State.computedSat, hwaiting]
    · simp only [State.estimated, hcomputed]; rfl
  · subst hr
    refine ⟨_, s.estimated, rfl, State.estimateStep_published hop hwork, rfl, referenceKind_eq _,
      referenceLean_of_none _, fun h q hq => referenceLean_of_yaw _ h hq, referenceLean_of_gravity _⟩

end Sys2Proof.Machine
end

section
/-! PROOF. O24: an ordinary publication, confidence state by confidence state. The state decided is looked up in
`Leu.decide`; what the publication then leaves depends on the decided state alone (`State.Publishes`). -/
namespace Sys2Proof.Machine

/-! ### What an ordinary publication leaves of the estimate (R22, R30, R31) -/

/-- The publication of `s` leaves this state, accumulator and U with this LEAN_SAT; the counts go on in a state that
stays and are 0 in one that changes (R31). -/
structure State.Publishes (s : State) (conf : Confidence) (acc : Int) (u : Nat) (sat : Bool) : Prop where
  published : s.estimateStep.leu.published = some s.estimated
  confidence : s.estimateStep.leu.conf = conf
  accumulator : s.estimateStep.leu.acc = acc
  uncertainty : s.estimateStep.leu.u = u
  saturation : s.estimated.estimate.leanSat = sat
  stays : conf = s.leu.conf →
    s.estimateStep.leu.good = s.leu.goodAfter s.sif.sample ∧ s.estimateStep.leu.coast = s.leu.coastAfter
  changes : conf ≠ s.leu.conf → s.estimateStep.leu.good = 0 ∧ s.estimateStep.leu.coast = 0

/-- R30: LEAN_SAT where the accumulator is computed: the clamp changed it. -/
theorem State.Publishes.leanSat_iff {s : State} {conf : Confidence} {a : Int} {u : Nat}
    (h : s.Publishes conf (clampAcc a) u (clampAcc a != a)) :
    s.estimated.estimate.leanSat = true ↔ s.estimateStep.leu.acc ≠ a := by
  rw [h.saturation, h.accumulator, bne_iff_ne]

section
variable {s : State} {d : Confidence} (hop : s.operating = true) (hwork : s.leu.work = .ordinary)
include hop hwork

theorem State.publishes (hd : s.leu.decide s.sif.sample s.sif.invalidRun = d) :
    s.Publishes (s.leu.settled d s.sif.sample) (s.leu.accAfter d s.sif.sample (referenceLean s.params s.sif.sample))
      (s.leu.finalUncertainty d s.sif.sample)
      (leanSat (s.leu.settled d s.sif.sample)
        (s.leu.clampActed d s.sif.sample (referenceLean s.params s.sif.sample))) := by
  have hbusy : s.leu.work ≠ .idle := by rw [hwork]; nofun
  have hleu := State.estimateStep_leu hop hbusy
  rw [State.computed_ordinary hwork] at hleu
  subst hd
  refine ⟨State.estimateStep_published hop hbusy, ?_, ?_, ?_, ?_, fun h => ?_, fun h => ?_⟩
  · rw [hleu]; rfl
  · rw [hleu]; rfl
  · rw [hleu]; rfl
  · simp only [State.estimated, Leu.record, State.computedSat, hwork, State.computed_ordinary hwork]
    rfl
  · rw [hleu]
    exact ⟨if_pos h, if_pos h⟩
  · rw [hleu]
    exact ⟨if_neg h, if_neg h⟩

/-- A state decided in which the accumulator is computed and U has no limit: SETTLING and TRACKING (R29, R30). -/
theorem State.publishes_computing (hd : s.leu.decide s.sif.sample s.sif.invalidRun = d)
    (hsettles : d = .settling ∨ d = .tracking) {a : Int}
    (ha : s.leu.unclamped d s.sif.sample (referenceLean s.params s.sif.sample) = some a) :
    s.Publishes d (clampAcc a) (s.leu.uncertaintyAfter d s.sif.sample) (clampAcc a != a) := by
  have h := State.publishes hop hwork hd
  simp only [Leu.accAfter, Leu.clampActed, ha] at h
  rcases hsettles with rfl | rfl <;> exact h

/-- R32, R36, R37: in UNSET the accumulator is 0, in COASTING and LOST it is held. -/
theorem State.publishes_holding (hd : s.leu.decide s.sif.sample s.sif.invalidRun = d)
    (hholds : d = .unset ∨ d = .coasting ∨ d = .lost) :
    s.Publishes d (if d = .unset then 0 else s.leu.acc) (s.leu.uncertaintyAfter d s.sif.sample) false := by
  have h := State.publishes hop hwork hd
  rcases hholds with rfl | rfl | rfl <;> exact h

/-! ### The blend (R25, R29) -/

omit hop hwork

/-- Without a gain the accumulator is the prediction (R25, R29). -/
theorem blend_zero (predicted refLean : Int) : blend predicted refLean 0 = predicted := by
  simp [blend, truncated]

theorem gain_of_valid {r : SampleRecord} (h : r.vRefValid = true) (roll : Int) :
    gain .settling (referenceKind r) roll = 64
      ∧ gain .tracking (referenceKind r) roll = if roll.natAbs ≤ 2000 then 8 else 2 := by
  rw [referenceKind_eq, h]
  by_cases hv : 500 ≤ r.vRef <;> simp [hv, gain]

theorem gain_of_invalid {r : SampleRecord} (h : r.vRefValid = false) (roll : Int) :
    gain d (referenceKind r) roll = 0 := by
  rw [referenceKind_eq, if_pos h]; rfl

theorem gain_drifting (kind : RefKind) (roll : Int) : gain .drifting kind roll = 0 := by cases kind <;> rfl

section
variable {x : Leu} {r : SampleRecord} {ref : Int}

theorem Leu.unclamped_tracking :
    x.unclamped .tracking r ref
      = some (blend (prediction x.acc r.inertial.roll) ref (gain .tracking (referenceKind r) r.inertial.roll)) := rfl

theorem Leu.unclamped_drifting : x.unclamped .drifting r ref = some (prediction x.acc r.inertial.roll) := by
  rw [← blend_zero (prediction x.acc r.inertial.roll) ref, ← gain_drifting (referenceKind r) r.inertial.roll]
  rfl

/-- R32, R37: SETTLING entered from UNSET or LOST initialises the accumulator. -/
theorem Leu.unclamped_initialised (h : x.conf = .unset ∨ x.conf = .lost) :
    x.unclamped .settling r ref = some (ref * 1000) := by
  unfold Leu.unclamped initialises
  rcases h with h | h <;> rw [h] <;> rfl

theorem Leu.unclamped_settling (h : x.conf = .settling ∨ x.conf = .drifting ∨ x.conf = .coasting) :
    x.unclamped .settling r ref
      = some (blend (prediction x.acc r.inertial.roll) ref (gain .settling (referenceKind r) r.inertial.roll)) := by
  unfold Leu.unclamped initialises
  rcases h with h | h | h <;> rw [h] <;> rfl

/-- R38: U of SETTLING entered from any state but LOST. -/
theorem Leu.uncertaintyAfter_settling_entered (h : x.conf = .unset ∨ x.conf = .drifting ∨ x.conf = .coasting) :
    x.uncertaintyAfter .settling r = max 500 x.u := by
  rcases h with h | h | h <;> simp [Leu.uncertaintyAfter, h]

/-! ### The state decided (R31 to R37) -/

variable {n : Nat}

theorem Leu.decide_tracking (h : x.conf = .tracking) (hn : n < 3) :
    x.decide r n = if r.imuValid && !r.vRefValid then .drifting else .tracking := by
  simp only [Leu.decide, h, if_neg (Nat.not_le.mpr hn)]

theorem Leu.decide_coasts (h : x.conf = .tracking ∨ x.conf = .drifting) (hn : 3 ≤ n) :
    x.decide r n = .coasting := by
  rcases h with h | h <;> simp only [Leu.decide, h, if_pos hn]

theorem Leu.decide_drifting (h : x.conf = .drifting) (hn : n < 3) :
    x.decide r n = if r.vRefValid then .settling else .drifting := by
  simp only [Leu.decide, h, if_neg (Nat.not_le.mpr hn)]

end

/-! ### DRIFTING and its limit (R34, R35, R38) -/

/-- R35: DRIFTING decided: the accumulator is the prediction, and a U that reaches 3000 makes the state LOST
(log 12). -/
theorem State.publishes_drifting (hop : s.operating = true) (hwork : s.leu.work = .ordinary)
    (hd : s.leu.decide s.sif.sample s.sif.invalidRun = .drifting) :
    s.Publishes (if 3000 ≤ s.leu.u + 5 then .lost else .drifting)
      (clampAcc (prediction s.leu.acc s.sif.sample.inertial.roll))
      (if 3000 ≤ s.leu.u + 5 then 6000 else s.leu.u + 5)
      (decide (s.leu.u + 5 < 3000)
        && clampAcc (prediction s.leu.acc s.sif.sample.inertial.roll)
          != prediction s.leu.acc s.sif.sample.inertial.roll) := by
  have h := State.publishes hop hwork hd
  simp only [Leu.accAfter, Leu.clampActed, Leu.unclamped_drifting, Leu.finalUncertainty, Leu.settled,
    Leu.uncertaintyAfter, true_and] at h
  by_cases hu : 3000 ≤ s.leu.u + 5
  · simp only [hu, if_true, decide_eq_false (Nat.not_lt.mpr hu)] at h ⊢
    exact h
  · simp only [hu, if_false, decide_eq_true (Nat.lt_of_not_le hu)] at h ⊢
    exact h

end

/-- Settles O24, clause by clause: the state decided, and what a publication that decides it leaves. -/
theorem trackingBlends : Obligations.TrackingBlends := by
  intro s predicted hop hwork hpredicted
  replace hpredicted : predicted = prediction s.leu.acc s.sif.sample.inertial.roll := hpredicted
  refine ⟨fun hconf hrun hv => ?_, fun hconf hrun hv himu => ?_, fun hconf hrun => ?_, fun hconf hrun hv => ?_,
    fun hconf hrun hv => ?_⟩
  · have hd := Leu.decide_tracking (r := s.sif.sample) hconf hrun
    rw [hv, Bool.not_true, Bool.and_false, if_neg Bool.false_ne_true] at hd
    have h := State.publishes_computing hop hwork hd (.inr rfl) Leu.unclamped_tracking
    rw [(gain_of_valid hv _).2, ← hpredicted] at h
    exact ⟨_, _, _, rfl, h.confidence, h.uncertainty, rfl, h.accumulator, h.published,
      h.leanSat_iff⟩
  · have hd := Leu.decide_tracking (r := s.sif.sample) hconf hrun
    rw [himu, Bool.false_and, if_neg Bool.false_ne_true] at hd
    have h := State.publishes_computing hop hwork hd (.inr rfl) Leu.unclamped_tracking
    rw [gain_of_invalid hv, blend_zero, ← hpredicted] at h
    exact ⟨_, _, rfl, h.confidence, h.uncertainty, h.accumulator, h.published,
      h.leanSat_iff⟩
  · have h := State.publishes_holding hop hwork (Leu.decide_coasts (r := s.sif.sample) hconf hrun) (.inr (.inl rfl))
    obtain ⟨hgood, hcoast⟩ := h.changes (by rcases hconf with hconf | hconf <;> rw [hconf] <;> nofun)
    exact ⟨_, _, rfl, h.confidence, h.accumulator, h.uncertainty, hgood, hcoast, h.published, h.saturation⟩
  · have hd : s.leu.decide s.sif.sample s.sif.invalidRun = .drifting := by
      rcases hconf with ⟨hconf, himu⟩ | hconf
      · rw [Leu.decide_tracking hconf hrun, himu, hv]; rfl
      · rw [Leu.decide_drifting hconf hrun, hv]; rfl
    have h := State.publishes_drifting hop hwork hd
    rw [← hpredicted] at h
    refine ⟨_, _, rfl, h.accumulator, ?_, h.published, ?_, fun hne => h.changes (h.confidence ▸ hne)⟩
    · rw [h.confidence, h.uncertainty]; split <;> rfl
    · rw [h.saturation, h.confidence, h.accumulator, Bool.and_eq_true, bne_iff_ne, decide_eq_true_eq]
      by_cases hu : 3000 ≤ s.leu.u + 5
      · simp [hu, Nat.not_lt.mpr hu]
      · simp [hu, Nat.lt_of_not_le hu, clampAcc]
  · have hd := Leu.decide_drifting (r := s.sif.sample) hconf hrun
    rw [if_pos hv] at hd
    have h := State.publishes_computing hop hwork hd (.inl rfl) (Leu.unclamped_settling (.inr (.inl hconf)))
    rw [(gain_of_valid hv _).1, ← hpredicted] at h
    obtain ⟨hgood, hcoast⟩ := h.changes (by rw [hconf]; nofun)
    have hu := Leu.uncertaintyAfter_settling_entered (.inr (.inl hconf)) (r := s.sif.sample)
    exact ⟨_, _, _, rfl, h.confidence, h.uncertainty.trans hu, rfl,
      h.accumulator, h.published, h.leanSat_iff, hgood, hcoast⟩

end Sys2Proof.Machine
end

section
/-! PROOF. O25: the publications whose counts decide. -/
namespace Sys2Proof.Machine

/-! ### The good-cycle count (R31) -/

section
variable {x : Leu} {r : SampleRecord} {n : Nat}

theorem Leu.goodAfter_eq (h : r.good = false ∨ x.good < 250) :
    x.goodAfter r = if r.good = true then x.good + 1 else 0 := by
  unfold Leu.goodAfter saturatingSucc
  cases hgood : r.good with
  | false => rfl
  | true =>
    have hlt : x.good < 250 := h.resolve_left (by rw [hgood]; nofun)
    exact Nat.min_eq_right hlt

/-- The count reaches a number within its range at a good publication that finds it one short. -/
theorem Leu.le_goodAfter_iff {limit : Nat} (h : limit + 1 ≤ 250) :
    limit + 1 ≤ x.goodAfter r ↔ r.good = true ∧ limit ≤ x.good := by
  unfold Leu.goodAfter saturatingSucc
  cases r.good with
  | false => simp
  | true => simp only [if_true, true_and]; omega

/-- The count stays short of a number. -/
theorem Leu.not_le_goodAfter {limit : Nat} (h : limit + 1 ≤ 250) (hshort : r.good = false ∨ x.good < limit) :
    ¬ limit + 1 ≤ x.goodAfter r := by
  rw [Leu.le_goodAfter_iff h]
  rintro ⟨hgood, hle⟩
  rcases hshort with hbad | hlt
  · rw [hgood] at hbad; cases hbad
  · omega

theorem Leu.coastAfter_coasting (h : x.conf = .coasting) : x.coastAfter = x.coast + 1 := if_pos h

/-! ### The state decided (R31 to R33, R36, R37) -/

theorem Leu.decide_unset (h : x.conf = .unset) : x.decide r n = if r.good = true then .settling else .unset := by
  simp only [Leu.decide, h]

theorem Leu.decide_settling_falls (h : x.conf = .settling) (hn : 3 ≤ n) : x.decide r n = .unset := by
  simp only [Leu.decide, h, if_pos hn]

theorem Leu.decide_settling_tracks (h : x.conf = .settling) (hn : n < 3) (hgood : r.good = true)
    (hcount : 249 ≤ x.good) : x.decide r n = .tracking := by
  have hreached : Nat.ble 250 (x.goodAfter r) = true :=
    Nat.ble_eq_true_of_le ((Leu.le_goodAfter_iff (limit := 249) (by decide)).mpr ⟨hgood, hcount⟩)
  simp only [Leu.decide, h, if_neg (Nat.not_le.mpr hn), hgood, hreached, Bool.and_self, if_true]

theorem Leu.decide_settling_stays (h : x.conf = .settling) (hn : n < 3) (hshort : r.good = false ∨ x.good < 249) :
    x.decide r n = .settling := by
  have hreached : Nat.ble 250 (x.goodAfter r) = false := by
    rw [← Bool.not_eq_true, Nat.ble_eq]
    exact Leu.not_le_goodAfter (limit := 249) (by decide) hshort
  simp only [Leu.decide, h, if_neg (Nat.not_le.mpr hn), hreached, Bool.and_false, Bool.false_eq_true, if_false]

/-- R36, R37: the third good publication running takes COASTING and LOST to SETTLING. -/
theorem Leu.decide_recovers (h : x.conf = .coasting ∨ x.conf = .lost) (hgood : r.good = true) (hcount : 2 ≤ x.good) :
    x.decide r n = .settling := by
  have hthird : 3 ≤ x.goodAfter r := (Leu.le_goodAfter_iff (limit := 2) (by decide)).mpr ⟨hgood, hcount⟩
  rcases h with h | h <;> simp only [Leu.decide, h, if_pos hthird]

theorem Leu.decide_coasting (h : x.conf = .coasting) (hshort : r.good = false ∨ x.good < 2) :
    x.decide r n = if 124 ≤ x.coast then .lost else .coasting := by
  have hthird := Leu.not_le_goodAfter (limit := 2) (by decide) hshort
  simp only [Leu.decide, h, if_neg hthird, Leu.coastAfter_coasting h, Nat.reduceLeDiff]

theorem Leu.decide_lost (h : x.conf = .lost) (hshort : r.good = false ∨ x.good < 2) : x.decide r n = .lost := by
  have hthird := Leu.not_le_goodAfter (limit := 2) (by decide) hshort
  simp only [Leu.decide, h, if_neg hthird]

/-! ### The accumulator and U in SETTLING (R25, R29, R32, R37, R38) -/

/-- The blend at SETTLING's gain, which a publication without a reference does not have. -/
theorem blend_settling (acc ref : Int) :
    blend (prediction acc r.inertial.roll) ref (gain .settling (referenceKind r) r.inertial.roll)
      = if r.vRefValid = true then
          acc + r.inertial.roll * 4 + truncated ((ref * 1000 - (acc + r.inertial.roll * 4)) * 64) 1024
        else acc + r.inertial.roll * 4 := by
  cases h : r.vRefValid with
  | true => rw [(gain_of_valid h _).1]; rfl
  | false => rw [gain_of_invalid h, blend_zero]; rfl

/-- R30: a reference lies within the clamp. -/
theorem clampAcc_referenceLean (c : WorkingCopy) (r : SampleRecord) :
    clampAcc (referenceLean c r * 1000) = referenceLean c r * 1000 := by
  have := natAbs_referenceLean_le c r
  unfold clampAcc clampInt
  rw [if_neg (by omega), if_neg (by omega)]

/-- R38: U of SETTLING entered from LOST. -/
theorem Leu.uncertaintyAfter_settling_of_lost (h : x.conf = .lost) : x.uncertaintyAfter .settling r = 3000 := by
  simp [Leu.uncertaintyAfter, h]

end

section
variable {s : State} (hop : s.operating = true) (hwork : s.leu.work = .ordinary)
include hop hwork

/-- R32, R37: SETTLING entered from UNSET or LOST. -/
theorem State.publishes_initialising (hconf : s.leu.conf = .unset ∨ s.leu.conf = .lost)
    (hd : s.leu.decide s.sif.sample s.sif.invalidRun = .settling) :
    s.Publishes .settling (referenceLean s.params s.sif.sample * 1000) (s.leu.uncertaintyAfter .settling s.sif.sample)
      false := by
  have h := State.publishes_computing hop hwork hd (.inl rfl) (Leu.unclamped_initialised hconf)
  rwa [clampAcc_referenceLean, bne_self_eq_false] at h

/-- R29, R33, R36: SETTLING kept, or entered from DRIFTING or COASTING. -/
theorem State.publishes_settling {blended : Int}
    (hconf : s.leu.conf = .settling ∨ s.leu.conf = .drifting ∨ s.leu.conf = .coasting)
    (hd : s.leu.decide s.sif.sample s.sif.invalidRun = .settling)
    (hblended : blended = if s.sif.sample.vRefValid = true then
        s.leu.acc + s.sif.sample.inertial.roll * 4 + truncated ((referenceLean s.params s.sif.sample * 1000
          - (s.leu.acc + s.sif.sample.inertial.roll * 4)) * 64) 1024
      else s.leu.acc + s.sif.sample.inertial.roll * 4) :
    s.Publishes .settling (clampAcc blended) (s.leu.uncertaintyAfter .settling s.sif.sample)
      (clampAcc blended != blended) := by
  have h := State.publishes_computing hop hwork hd (.inl rfl) (Leu.unclamped_settling hconf)
  rwa [blend_settling, ← hblended] at h

end

/-! ### The rows of the counts (R33, R36; log 2) -/

theorem exec_settlingGoodCountReached {s : State} (h : s.leu.conf = .settling)
    (ht : s.estimateStep.leu.conf = .tracking) : exec .settlingGoodCountReached s = .next s.estimateStep := by
  simp only [exec, execSettlingGoodCountReached, h, ht, beq_self_eq_true, Bool.and_self]
  rfl

theorem exec_coastCountExpiry {s : State} (h : s.leu.conf = .coasting) (ht : s.estimateStep.leu.conf = .lost) :
    exec .coastCountExpiry s = .next s.estimateStep := by
  simp only [exec, execCoastCountExpiry, h, ht, beq_self_eq_true, Bool.and_self]
  rfl

/-- Settles O25, clause by clause: the state that the counts decide, and what a publication that decides it leaves. -/
theorem countedEstimates : Obligations.CountedEstimates := by
  intro s good ref blended hop hwork hgood href hblended
  replace hgood : s.sif.sample.good = good := hgood.symm
  subst hgood href
  have hbusy : s.leu.work ≠ .idle := by rw [hwork]; nofun
  refine ⟨fun hconf hrun hgood hcount => ?_, fun hconf hcoast hshort => ?_, s.estimateStep, s.estimated, rfl,
    State.estimateStep_published hop hbusy, fun hconf hgood => ?_, fun hconf hbad => ?_, fun hconf hrun => ?_,
    fun hconf hrun hshort => ?_, fun hconf hgood hcount => ?_, fun hconf hshort hcoast => ?_,
    fun hconf hgood hcount => ?_, fun hconf hshort => ?_⟩
  · have hv : s.sif.sample.vRefValid = true := (Bool.and_eq_true_iff.mp hgood).2
    have hd := Leu.decide_settling_tracks hconf hrun hgood hcount
    have h := State.publishes_computing hop hwork hd (.inr rfl) Leu.unclamped_tracking
    rw [(gain_of_valid hv _).2] at h
    obtain ⟨hzero, hcoast⟩ := h.changes (by rw [hconf]; nofun)
    exact ⟨_, exec_settlingGoodCountReached hconf h.confidence, rfl, h.confidence, hzero, hcoast, h.uncertainty,
      _, _, _, h.published, rfl, rfl, h.accumulator, h.leanSat_iff⟩
  · have hd := Leu.decide_coasting (n := s.sif.invalidRun) hconf hshort
    rw [if_pos hcoast] at hd
    have h := State.publishes_holding hop hwork hd (.inr (.inr rfl))
    obtain ⟨hzero, hcoast⟩ := h.changes (by rw [hconf]; nofun)
    exact ⟨_, exec_coastCountExpiry hconf h.confidence, rfl, h.confidence, h.uncertainty, h.accumulator, hzero, hcoast⟩
  · have hd := Leu.decide_unset (r := s.sif.sample) (n := s.sif.invalidRun) hconf
    rw [if_pos hgood] at hd
    have h := State.publishes_initialising hop hwork (.inl hconf) hd
    obtain ⟨hzero, hcoast⟩ := h.changes (by rw [hconf]; nofun)
    have hu := Leu.uncertaintyAfter_settling_entered (.inl hconf) (r := s.sif.sample)
    exact ⟨h.confidence, h.accumulator, h.uncertainty.trans hu, hzero, hcoast,
      h.saturation⟩
  · have hd := Leu.decide_unset (r := s.sif.sample) (n := s.sif.invalidRun) hconf
    rw [hbad, if_neg Bool.false_ne_true] at hd
    have h := State.publishes_holding hop hwork hd (.inl rfl)
    exact ⟨h.confidence, h.accumulator, h.uncertainty⟩
  · have h := State.publishes_holding hop hwork (Leu.decide_settling_falls hconf hrun) (.inl rfl)
    obtain ⟨hzero, hcoast⟩ := h.changes (by rw [hconf]; nofun)
    exact ⟨h.confidence, h.accumulator, h.uncertainty, hzero, hcoast⟩
  · have hd := Leu.decide_settling_stays hconf hrun hshort
    have h := State.publishes_settling hop hwork (.inl hconf) hd hblended
    refine ⟨h.confidence, h.accumulator, h.leanSat_iff, ?_⟩
    rw [(h.stays hconf.symm).1, h.uncertainty, Leu.goodAfter_eq (hshort.imp_right (Nat.lt_trans · (by decide)))]
    simp only [Leu.uncertaintyAfter, hconf, if_true]
    split <;> rfl
  · have h := State.publishes_settling hop hwork (.inr (.inr hconf)) (Leu.decide_recovers (.inl hconf) hgood hcount)
      hblended
    obtain ⟨hzero, hcoast⟩ := h.changes (by rw [hconf]; nofun)
    have hu := Leu.uncertaintyAfter_settling_entered (.inr (.inr hconf)) (r := s.sif.sample)
    exact ⟨h.confidence, h.accumulator, h.uncertainty.trans hu,
      h.leanSat_iff, hzero, hcoast⟩
  · have hd := Leu.decide_coasting (n := s.sif.invalidRun) hconf hshort
    rw [if_neg (Nat.not_le.mpr hcoast)] at hd
    have h := State.publishes_holding hop hwork hd (.inr (.inl rfl))
    obtain ⟨hcount, hcoasted⟩ := h.stays hconf.symm
    exact ⟨h.confidence, h.accumulator, h.uncertainty, hcoasted.trans (Leu.coastAfter_coasting hconf),
      hcount.trans (Leu.goodAfter_eq (hshort.imp_right (Nat.lt_trans · (by decide))))⟩
  · have h := State.publishes_initialising hop hwork (.inr hconf) (Leu.decide_recovers (.inr hconf) hgood hcount)
    obtain ⟨hzero, hcoast⟩ := h.changes (by rw [hconf]; nofun)
    have hu := Leu.uncertaintyAfter_settling_of_lost hconf (r := s.sif.sample)
    exact ⟨h.confidence, h.accumulator, h.uncertainty.trans hu, hzero, hcoast,
      h.saturation⟩
  · have h := State.publishes_holding hop hwork (Leu.decide_lost hconf hshort) (.inr (.inr rfl))
    exact ⟨h.confidence, h.accumulator, h.uncertainty,
      (h.stays hconf.symm).1.trans (Leu.goodAfter_eq (hshort.imp_right (Nat.lt_trans · (by decide))))⟩

end Sys2Proof.Machine
end

section
/-! PROOF. O30: what one budget computation publishes. `State.computeBudget_eq` says the computation once. -/
namespace Sys2Proof.Machine

/-! ### Budgets (R57 to R60) -/

theorem isqrtBits_mul_self_le {x r : Nat} (h : r * r ≤ x) (k : Nat) :
    isqrtBits x k r * isqrtBits x k r ≤ x := by
  induction k generalizing r with
  | zero => exact h
  | succ k ih =>
    unfold isqrtBits
    split
    · exact ih ‹_›
    · exact ih h

/-- R1: the square of an isqrt does not exceed its argument. -/
theorem isqrt_mul_self_le (x : Nat) : isqrt x * isqrt x ≤ x := isqrtBits_mul_self_le (Nat.zero_le x) _

theorem longitudinalCapacity_le (mu lat : Nat) : longitudinalCapacity mu lat ≤ mu := by
  unfold longitudinalCapacity
  split
  · exact Nat.mul_self_le_mul_self_iff.mp ((isqrt_mul_self_le _).trans (Nat.sub_le _ _))
  · exact Nat.zero_le mu

theorem usableFraction_le (long reserve : Nat) : usableFraction long reserve ≤ long :=
  Nat.div_le_of_le_mul (by
    rw [Nat.mul_comm 1000]
    exact Nat.mul_le_mul_left long (Nat.sub_le 1000 reserve))

theorem wheelBudget_le {b floorPm mu : Nat} (hb : b ≤ mu) (hfloor : floorPm ≤ mu) (load : Nat) (floor : Bool) :
    wheelBudget load b floorPm floor ≤ load * mu / 1000 := by
  unfold wheelBudget
  split
  · exact Nat.div_le_div_right (Nat.mul_le_mul_left load hfloor)
  · exact (min_le_right _ _).trans (Nat.div_le_div_right (Nat.mul_le_mul_left load hb))

/-- R59, R60: no budget exceeds floor(N_w × μ / 1000) where the learned friction is not below floor_pm. -/
theorem budgetRecord_budget_le {c : WorkingCopy} {mu : Nat} (h : c.floorPm ≤ mu) (profile : Profile)
    (e : EstimateRecord) (w : Wheel) (load : Nat) :
    (budgetRecord c profile e mu w load).budget ≤ load * mu / 1000 :=
  wheelBudget_le ((usableFraction_le _ _).trans (longitudinalCapacity_le _ _)) h _ _

theorem floorState_iff (c : Confidence) : floorState c = true ↔ c = .unset ∨ c = .lost := by
  simp [floorState]

theorem budgetPublicationOf_get (c : WorkingCopy) (profile : Profile) (p : Publication) (loads : WheelLoads)
    (mu : Nat) (w : Wheel) :
    (budgetPublicationOf c profile p loads mu).record.get w
      = budgetRecord c profile p.estimate mu w (loads.load.get w) := by
  cases w <;> rfl

/-! ### Loads (R52 to R54) -/

theorem toNat_clampInt {lo hi : Int} (hlo : 0 ≤ lo) (h : lo ≤ hi) (x : Int) :
    ((clampInt lo hi x).toNat : Int) = clampInt lo hi x := by
  unfold clampInt; split_ifs <;> omega

theorem clampInt_le {lo hi : Int} (h : lo ≤ hi) (x : Int) : clampInt lo hi x ≤ hi := by
  unfold clampInt; split_ifs <;> omega

theorem frontFraction_eq (staticFront hwb : Nat) (aF : Int) :
    (frontFraction staticFront hwb aF : Int) = clampInt 50 950 (staticFront - truncated (aF * hwb) 1000) :=
  toNat_clampInt (by decide) (by decide) _

theorem frontFraction_le (staticFront hwb : Nat) (aF : Int) : frontFraction staticFront hwb aF ≤ 950 := by
  have := clampInt_le (lo := 50) (hi := 950) (by decide) (staticFront - truncated (aF * hwb) 1000)
  have := frontFraction_eq staticFront hwb aF
  omega

theorem totalLoad_eq (mass : Nat) (az : Int) :
    (totalLoad mass az : Int) = mass * clampInt 500 3000 az * 9807 / 1000000 := by
  have h : ((clampInt 500 3000 az).toNat : Int) = _ := toNat_clampInt (by decide) (by decide) az
  unfold totalLoad
  push_cast
  rw [h]

/-- R54: the two wheels carry the total load. -/
theorem wheelLoads_sum {frontPm : Nat} (h : frontPm ≤ 1000) (total : Nat) :
    (wheelLoads total frontPm).load.front + (wheelLoads total frontPm).load.rear = total :=
  Nat.add_sub_cancel' (Nat.div_le_of_le_mul (by
    rw [Nat.mul_comm 1000]
    exact Nat.mul_le_mul_left total h))

/-! ### The computation (R50, R51, R61, R82) -/

/-- The drive grant holds force, as a force (R49, R50). -/
theorem State.driveHolds_iff (s : State) : s.driveHolds = true ↔ 0 < (s.grantedForce .eRearDrive).getD 0 := by
  unfold State.driveHolds State.grantedForce
  cases s.grant .eRearDrive <;> simp

/-- The ride settings a computation for a publication goes by: those it has read, after the pending-profile stage. -/
def State.settingsUsed (s : State) (p : Publication) : RideSettings :=
  s.gbu.settingsRead.stage p.estimate.vRef s.driveHolds

/-- The friction learning unit after the friction stage of a computation. -/
def State.frictionStaged (s : State) (p : Publication) : Flu :=
  s.flu.frictionStage s.params.recoverCycles (s.params.muNom (s.settingsUsed p).profile)

/-- The wheel loads of a computation. -/
def State.loadsComputed (s : State) (p : Publication) : WheelLoads := loadsFor s.params (s.settingsUsed p).cls p

/-- The budgets of a computation. -/
def State.budgets (s : State) (p : Publication) : BudgetPublication :=
  budgetPublicationOf s.params (s.settingsUsed p).profile p (s.loadsComputed p) (s.frictionStaged p).learned

theorem State.budgets_get (s : State) (p : Publication) (w : Wheel) :
    (s.budgets p).record.get w
      = budgetRecord s.params (s.settingsUsed p).profile p.estimate (s.frictionStaged p).learned w
        ((s.loadsComputed p).load.get w) :=
  budgetPublicationOf_get _ _ _ _ _ w

/-- A computation leaves all but the grip budget unit, the friction learning unit and the pending re-evaluation. -/
theorem State.computeBudget_eq (s : State) (p : Publication) :
    s.computeBudget p = { s with
      gbu :=
        { settings := s.gbu.settingsStaged s.gbu.settingsRead (s.settingsUsed p)
          loads := some (s.loadsComputed p)
          publication := some (s.budgets p)
          working := false
          read := none }
      flu := (s.frictionStaged p).completeTriggers s.params.recoverCycles (s.budgets p)
      gre := { s.gre with waiting := some (s.budgets p) } } := rfl

theorem exec_budgetPublication {s : State} {p : Publication} (hop : s.operating = true) (hwork : s.gbu.working = true)
    (hp : s.leu.published = some p) : exec .budgetPublication s = .next (s.computeBudget p) := by
  simp only [exec, execBudgetPublication, State.whileOperating_of_operating hop, State.publishBudget, hwork, hp,
    if_true, go]

/-- Settles O30: a computation publishes what `State.budgets` and `State.loadsComputed` say, and with it stands the
pending re-evaluation. -/
theorem budgetPublished : Obligations.BudgetPublished := by
  intro s p cls hop hwork hp hcls
  have hused : (s.settingsUsed p).cls = cls :=
    (RideSettings.stage_spec _ _ _).1.trans hcls.symm
  refine ⟨s.computeBudget p, s.budgets p, s.loadsComputed p, exec_budgetPublication hop hwork hp, rfl, rfl, rfl, rfl,
    rfl, ?_, ?_, rfl, wheelLoads_sum ((frontFraction_le _ _ _).trans (by decide)) _, fun w => ?_, s.computeBudget_eq p⟩
  · rw [← hused]
    exact frontFraction_eq _ _ _
  · rw [← hused]
    exact totalLoad_eq _ _
  · rw [State.budgets_get]
    exact ⟨rfl, rfl, rfl, rfl, rfl, rfl, rfl, floorState_iff _, rfl⟩

end Sys2Proof.Machine
end

section
/-! PROOF. O31: the stages of a budget computation, and the list of slip events. -/
namespace Sys2Proof.Machine

/-! ### The pending-profile stage (R50) -/

theorem State.driveHolds_eq_false_iff (s : State) :
    s.driveHolds = false ↔ (s.grantedForce .eRearDrive).getD 0 = 0 := by
  rw [← Bool.not_eq_true, s.driveHolds_iff, Nat.pos_iff_ne_zero, not_not]

theorem RideSettings.stage_none {r : RideSettings} (h : r.pending = none) (vRef : Nat) (driveHolds : Bool) :
    r.stage vRef driveHolds = r := by
  simp only [RideSettings.stage, h]

section
variable {r : RideSettings} {q : PendingProfile} {vRef : Nat} {driveHolds : Bool} (h : r.pending = some q)
include h

theorem RideSettings.stage_taken (htaken : q.kind = .next ∨ vRef = 0 ∨ driveHolds = false) :
    r.stage vRef driveHolds = { r with profile := q.profile, pending := none } := by
  obtain ⟨profile, kind⟩ := q
  cases kind with
  | next => simp only [RideSettings.stage, h]
  | deferred =>
    have hrest : vRef = 0 ∨ driveHolds = false := htaken.resolve_left nofun
    simp [RideSettings.stage, h, hrest]

theorem RideSettings.stage_held (hheld : ¬(q.kind = .next ∨ vRef = 0 ∨ driveHolds = false)) :
    r.stage vRef driveHolds = r := by
  obtain ⟨profile, kind⟩ := q
  cases kind with
  | next => exact absurd (.inl rfl) hheld
  | deferred =>
    have hmoves : ¬(vRef = 0 ∨ driveHolds = false) := hheld ∘ .inr
    simp [RideSettings.stage, h, hmoves]

end

/-! ### The friction stage (R65, R66, R71, R72) -/

/-- R72: the learned friction is the least of the nominal and the contributions. -/
theorem learnedFriction_least (recover muNom : Nat) (events : List SlipEvent) :
    learnedFriction recover muNom events ≤ muNom
      ∧ (∀ e ∈ events, learnedFriction recover muNom events ≤ e.contribution recover)
      ∧ (learnedFriction recover muNom events = muNom
          ∨ ∃ e ∈ events, learnedFriction recover muNom events = e.contribution recover) := by
  unfold learnedFriction
  induction events generalizing muNom with
  | nil => simp
  | cons e events ih =>
    obtain ⟨hnom, hevents, heq⟩ := ih (min muNom (e.contribution recover))
    obtain ⟨hmu, he⟩ := le_min_iff.mp hnom
    refine ⟨hmu, List.forall_mem_cons.mpr ⟨he, hevents⟩, ?_⟩
    rcases heq with heq | ⟨x, hx, heq⟩
    · exact (min_choice muNom (e.contribution recover)).imp heq.trans fun h => ⟨e, List.mem_cons_self, heq.trans h⟩
    · exact .inr ⟨x, List.mem_cons_of_mem e hx, heq⟩

theorem mem_remainingEvents {recover muNom : Nat} {events : List SlipEvent} {e : SlipEvent} :
    e ∈ remainingEvents recover muNom events
      ↔ e ∈ events.map SlipEvent.aged ∧ e.contribution recover < muNom := by
  simp only [remainingEvents, List.mem_filter, decide_eq_true_eq]

@[simp] theorem agedReports_get (r : PerKey Nat) (k : GrantKey) : (agedReports r).get k = r.get k - 1 := by
  cases k <;> rfl

theorem State.le_muObs_of_learningKept {s : State} (h : s.learningKept = true) {e : SlipEvent} (he : e ∈ s.flu.events) :
    100 ≤ e.muObs := by
  simp only [State.learningKept, eventsKept, SlipEvent.inRange, Bool.and_eq_true, List.all_eq_true,
    decide_eq_true_eq] at h
  obtain ⟨⟨⟨⟨⟨⟨-, hevents⟩, -⟩, -⟩, -⟩, -⟩, -⟩ := h
  exact (hevents e he).1.1

theorem le_clampNat {lo hi : Nat} (h : lo ≤ hi) (x : Nat) : lo ≤ clampNat lo hi x := by
  unfold clampNat; split_ifs <;> omega

theorem WorkingCopy.le_muNom (c : WorkingCopy) (p : Profile) : 100 ≤ c.muNom p := le_clampNat (by decide) _

theorem WorkingCopy.floorPm_le (c : WorkingCopy) : c.floorPm ≤ 100 := clampNat_le (by decide) _

/-- R44, R65, R72: neither the nominal nor a contribution lies below 100, and so the learned friction does not. -/
theorem State.le_frictionStaged_learned {s : State} (h : s.learningKept = true) (p : Publication) :
    100 ≤ (s.frictionStaged p).learned := by
  obtain ⟨-, -, hnom | ⟨e, he, hevent⟩⟩ := learnedFriction_least s.params.recoverCycles
    (s.params.muNom (s.settingsUsed p).profile) (s.frictionStaged p).events
  · exact (s.params.le_muNom _).trans_eq hnom.symm
  · obtain ⟨x, hx, rfl⟩ := List.mem_map.mp (mem_remainingEvents.mp he).1
    calc
      100 ≤ x.muObs := State.le_muObs_of_learningKept h hx
      _ ≤ x.aged.contribution s.params.recoverCycles := Nat.le_add_right _ _
      _ = (s.frictionStaged p).learned := hevent.symm

/-! ### Slip events (R69, R70) -/

theorem clampNat_eq {lo hi : Nat} (h : lo ≤ hi) (x : Nat) : clampNat lo hi x = max lo (min hi x) := by
  unfold clampNat; split_ifs <;> omega

/-- R68, R70: triggers are completed one after the other by offering the events they yield. -/
theorem foldl_completeTrigger (recover : Nat) (q : BudgetPublication) (triggers : List PendingTrigger)
    (events : List SlipEvent) :
    triggers.foldl (completeTrigger recover q) events
      = (triggers.filterMap fun x => slipEvent q x.monitor x.force).foldl (offerEvent recover) events := by
  rw [List.foldl_filterMap]
  congr
  funext events x
  unfold completeTrigger
  cases slipEvent q x.monitor x.force <;> rfl

theorem le_foldl_max_contribution (recover : Nat) (events : List SlipEvent) (n : Nat) :
    n ≤ events.foldl (fun x e => max x (e.contribution recover)) n :=
  List.foldlRecOn events _ (motive := (n ≤ ·)) le_rfl fun _ hx _ _ => hx.trans (le_max_left _ _)

theorem foldl_max_contribution_le {recover n limit : Nat} {events : List SlipEvent} (hn : n ≤ limit)
    (h : ∀ e ∈ events, e.contribution recover ≤ limit) :
    events.foldl (fun x e => max x (e.contribution recover)) n ≤ limit :=
  List.foldlRecOn events _ (motive := (· ≤ limit)) hn fun _ hx e he => max_le hx (h e he)

/-- The highest contribution is that of a member which no other exceeds. -/
theorem highestContribution_eq {recover : Nat} {older younger : List SlipEvent} {x : SlipEvent}
    (holder : ∀ y ∈ older, y.contribution recover ≤ x.contribution recover)
    (hyounger : ∀ y ∈ younger, y.contribution recover ≤ x.contribution recover) :
    highestContribution recover (older ++ x :: younger) = x.contribution recover := by
  unfold highestContribution
  rw [List.foldl_append, List.foldl_cons, max_eq_right (foldl_max_contribution_le (Nat.zero_le _) holder)]
  exact le_antisymm (foldl_max_contribution_le le_rfl hyounger) (le_foldl_max_contribution _ _ _)

/-- R70: a full list gives up the oldest of its highest contributions, to a lower event only. -/
theorem offerEvent_full {recover : Nat} {older younger : List SlipEvent} {x : SlipEvent}
    (hfull : 8 ≤ (older ++ x :: younger).length)
    (holder : ∀ y ∈ older, y.contribution recover < x.contribution recover)
    (hyounger : ∀ y ∈ younger, y.contribution recover ≤ x.contribution recover) (e : SlipEvent) :
    offerEvent recover (older ++ x :: younger) e
      = if e.muObs < x.contribution recover then older ++ younger ++ [e] else older ++ x :: younger := by
  have hleaves : (older ++ x :: younger).eraseP (fun y => y.contribution recover == x.contribution recover)
      = older ++ younger := by
    rw [List.eraseP_append_right _ fun y hy => by simpa using (holder y hy).ne, List.eraseP_cons_of_pos (by simp)]
  rw [offerEvent, if_neg (Nat.not_lt.mpr hfull),
    highestContribution_eq (fun y hy => (holder y hy).le) hyounger, hleaves]

/-! ### The stages of a computation -/

/-- Settles O31, stage by stage: the learned friction, the ride settings, the bound of a budget, the triggers completed,
the event of a trigger and its place in the list. -/
theorem budgetStages : Obligations.BudgetStages := by
  refine ⟨fun s p hop hwork hp => ?_, fun s p used hop hwork hp hused => ?_,
    fun s t p q w hkept hop hwork hp ht hq => ?_, fun s p hop hwork hp => ?_,
    fun q m force load ratio lat hload hratio hlat => ?_, fun n events e => ⟨fun h => ?_, ?_⟩⟩
  · obtain ⟨hnom, hevents, heq⟩ := learnedFriction_least s.params.recoverCycles
      (s.params.muNom (s.settingsUsed p).profile) (s.frictionStaged p).events
    exact ⟨s.computeBudget p, exec_budgetPublication hop hwork hp, hnom,
      fun e he hlow => hevents e (mem_remainingEvents.mpr ⟨he, hlow⟩),
      heq.imp_right fun ⟨e, he, hlearned⟩ => ⟨e, (mem_remainingEvents.mp he).1, hlearned⟩,
      fun k => agedReports_get s.flu.reports k⟩
  · refine ⟨s.computeBudget p, exec_budgetPublication hop hwork hp, rfl, rfl, rfl, fun profile pending hstage => ?_⟩
    have hstaged : (s.settingsUsed p).profile = profile ∧ (s.settingsUsed p).pending = pending := by
      rw [State.settingsUsed, show s.gbu.settingsRead = used from hused.symm]
      cases hpending : used.pending with
      | none =>
        rw [RideSettings.stage_none hpending, hpending]
        rw [hpending] at hstage
        exact Prod.mk.inj hstage.symm
      | some q =>
        simp only [hpending, ← s.driveHolds_eq_false_iff] at hstage
        split at hstage
        next htaken =>
          rw [RideSettings.stage_taken hpending htaken]
          exact Prod.mk.inj hstage.symm
        next hheld =>
          rw [RideSettings.stage_held hpending hheld, hpending]
          exact Prod.mk.inj hstage.symm
    obtain ⟨rfl, rfl⟩ := hstaged
    subst hused
    exact ⟨rfl, fun h => if_pos h, fun h => if_neg h⟩
  · obtain rfl := Host.Outcome.next.inj ((exec_budgetPublication hop hwork hp).symm.trans ht)
    obtain rfl : s.budgets p = q := Option.some.inj hq
    rw [State.budgets_get]
    exact budgetRecord_budget_le (s.params.floorPm_le.trans (State.le_frictionStaged_learned hkept p)) _ _ _ _
  · exact ⟨s.computeBudget p, s.budgets p, exec_budgetPublication hop hwork hp, rfl, rfl, foldl_completeTrigger _ _ _ _⟩
  · subst hload hratio hlat
    simp only [slipEvent, clampNat_eq (by decide : 100 ≤ 1300)]
  · exact if_pos h
  · rintro older x younger hfull rfl holder hyounger
    exact offerEvent_full hfull holder hyounger e

end Sys2Proof.Machine
end

section
/-! PROOF. O32: PROFILE_SET: the read of a computation in flight is decided first, then the request is served. -/
namespace Sys2Proof.Machine

/-! ### The checks of a PROFILE_SET (R45, R46, R48, R49) -/

theorem optionalBad_eq {α : Type} (f : Option Nat) (decode : Nat → Option α) :
    optionalBad f decode = f.any fun n => (decode n).isNone := by
  cases f <;> rfl

theorem State.standstill_eq_false_iff (s : State) :
    s.standstill = false ↔ 0 < s.sif.vRef ∨ s.sif.vRefValid = false := by
  simp [State.standstill, Nat.pos_iff_ne_zero, or_iff_not_imp_left]

/-- R46: an absent field, and one without a class, name the class in force. -/
theorem State.changesClass_iff (s : State) (r : Request) :
    s.changesClass r = true ↔ ((r.optionalField 1).bind classOfCode).getD s.gbu.settings.cls ≠ s.gbu.settings.cls := by
  unfold State.changesClass
  cases r.optionalField 1 with
  | none => simp
  | some n => cases h : classOfCode n <;> simp [h]

theorem State.defers_iff (s : State) (q : Profile) :
    s.defers q = true ↔ (s.params.muNom s.profile < s.params.muNom q ∨ s.params.reserve q < s.params.reserve s.profile)
      ∧ 0 < s.sif.vRef ∧ 0 < (s.grantedForce .eRearDrive).getD 0 := by
  simp only [State.defers, State.permissive, Bool.and_eq_true, Bool.or_eq_true, decide_eq_true_eq, s.driveHolds_iff,
    and_assoc]

theorem State.profileRefusal_eq (s : State) (r : Request) :
    s.profileRefusal r
      = if s.running = false then some .notReady
        else if profileOfCode (r.byte 0) = none ∨ (r.optionalField 1).any (fun n => (classOfCode n).isNone) = true
            ∨ (r.optionalField 2).any (fun n => (policyOfCode n).isNone) = true then some .badField
        else if ((r.optionalField 1).bind classOfCode).getD s.gbu.settings.cls ≠ s.gbu.settings.cls
            ∧ (0 < s.sif.vRef ∨ s.sif.vRefValid = false) then some .notStandstill
        else none := by
  simp only [State.profileRefusal, optionalBad_eq, Bool.not_eq_true', Bool.or_eq_true, Bool.and_eq_true,
    Option.isNone_iff_eq_none, or_assoc, s.changesClass_iff, s.standstill_eq_false_iff]

/-! ### The request served (R45 to R47, R49, R51) -/

theorem State.pendingAfter_eq (s : State) (q : Profile) :
    s.pendingAfter q = if q = s.profile then none else some ⟨q, if s.defers q then .deferred else .next⟩ := by
  unfold State.pendingAfter
  cases s.defers q <;> rfl

theorem State.serveProfileSet_refused {s : State} {r : Request} {code : ReplyCode}
    (h : s.profileRefusal r = some code) :
    s.serveProfileSet r = s.answer .c ⟨.profileSet, code, []⟩ := by
  simp only [State.serveProfileSet, h, State.answerCode]

theorem State.serveProfileSet_accepted {s : State} {r : Request} {q : Profile} (h : s.profileRefusal r = none)
    (hq : profileOfCode (r.byte 0) = some q) :
    s.serveProfileSet r = (s.setGbu { s.gbu with settings := s.settingsAfter r q }).answer .c
      ⟨.profileSet, if s.defers q then .deferred else .ok, []⟩ := by
  simp only [State.serveProfileSet, h, hq, State.answerCode]

/-- The state as a PROFILE_SET finds it: where the computation in flight may or may not have read the ride settings by
now, a free value says whether it has (R51; log 10). -/
def State.readDecided (s : State) : State :=
  (s.setFreeCount (if s.gbu.readOpen then s.freeCount + 1 else s.freeCount)).setGbu
    (s.gbu.readsSettings (Config.readBefore s.freeCount))

theorem Gbu.readOpen_iff (x : Gbu) : x.readOpen = true ↔ x.working = true ∧ x.read = none := by
  simp only [Gbu.readOpen, Bool.and_eq_true, Option.isNone_iff_eq_none]

theorem State.readDecided_eq (s : State) :
    s.readDecided = if s.gbu.working = true ∧ s.gbu.read = none then
        { s with
          gbu := { s.gbu with read := if Config.readBefore s.freeCount = true then some s.gbu.settings else none }
          freeCount := s.freeCount + 1 }
      else s := by
  rw [State.readDecided, Gbu.readsSettings_spec]
  by_cases hopen : s.gbu.working = true ∧ s.gbu.read = none
  · rw [if_pos hopen, if_pos (s.gbu.readOpen_iff.mpr hopen)]
    simp only [hopen, true_and, and_self]
    rfl
  · rw [if_neg hopen, if_neg (hopen ∘ s.gbu.readOpen_iff.mp), if_neg (hopen ∘ And.left)]
    rfl

theorem State.readDecided_settings (s : State) : s.readDecided.gbu.settings = s.gbu.settings := by
  rw [State.readDecided, Gbu.readsSettings_spec]; rfl

theorem State.readDecided_profile (s : State) : s.readDecided.profile = s.profile :=
  congrArg RideSettings.profile s.readDecided_settings

/-- Whether the read came first changes neither what the checks see nor whether the profile is deferred. -/
theorem State.readDecided_profileRefusal (s : State) (r : Request) :
    s.readDecided.profileRefusal r = s.profileRefusal r := by
  rw [State.profileRefusal_eq, State.profileRefusal_eq, State.readDecided_settings]; rfl

theorem State.readDecided_defers (s : State) (q : Profile) : s.readDecided.defers q = s.defers q := by
  rw [Bool.eq_iff_iff, State.defers_iff, State.defers_iff, State.readDecided_profile]; rfl

theorem State.readDecided_settingsAfter (s : State) (r : Request) (q : Profile) :
    s.readDecided.settingsAfter r q = s.settingsAfter r q := by
  rw [State.settingsAfter, State.settingsAfter, State.pendingAfter_eq, State.pendingAfter_eq, State.readDecided_defers,
    State.readDecided_profile, State.readDecided_settings]

theorem exec_profileSet {s : State} {r : Request} (hop : s.operating = true) (hr : s.served .c .profileSet = some r) :
    exec .profileSet s = .next (s.readDecided.serveProfileSet r) := by
  simp only [exec, execProfileSet, hr, State.whileOperating_of_operating hop, go]
  rfl

/-- Settles O32: the read is decided first, and the checks and the deferral are those of the state before it. -/
theorem profileSetServed : Obligations.ProfileSetServed := by
  intro s u r code hop hr hcode hu
  rw [← s.profileRefusal_eq, ← s.readDecided_profileRefusal] at hcode
  rw [← s.readDecided_eq] at hu
  subst hcode hu
  rw [exec_profileSet hop hr]
  refine ⟨fun c hc => by rw [State.serveProfileSet_refused hc], fun q deferred hok hq hdeferred => ?_⟩
  obtain rfl : deferred = s.defers q := by rw [Bool.eq_iff_iff, hdeferred, s.defers_iff]
  rw [State.serveProfileSet_accepted hok hq, s.readDecided_settingsAfter, s.readDecided_defers, State.settingsAfter,
    State.pendingAfter_eq]
  rfl

end Sys2Proof.Machine
end

section
/-! SUPPORT. Which operations leave the friction learning unit alone: one frame lemma per shared operation. -/
namespace Sys2Proof.Machine

section
variable (s : State)

/-! ### Grants -/

@[simp] theorem State.confirmGrants_flu (p : PortName) : (s.confirmGrants p).flu = s.flu := s.changeGrants_flu _ _
@[simp] theorem State.freezeGrants_flu (p : PortName) : (s.freezeGrants p).flu = s.flu := s.changeGrants_flu _ _
@[simp] theorem State.freeEngine_flu : s.freeEngine.flu = s.flu := rfl
@[simp] theorem State.queueStatus_flu : s.queueStatus.flu = s.flu := rfl
@[simp] theorem State.startRewrite_flu : s.startRewrite.flu = s.flu := rfl
@[simp] theorem State.finishService_flu (p : PortName) (r : Reply) : (s.finishService p r).flu = s.flu := rfl
@[simp] theorem State.finishSilently_flu (p : PortName) : (s.finishSilently p).flu = s.flu := rfl

@[simp] theorem State.cutDrive_flu (c : Nat) : (s.cutDrive c).flu = s.flu := by
  unfold State.cutDrive; split <;> simp

@[simp] theorem State.grantWritten_flu (k : GrantKey) (n : Nat) : (s.grantWritten k n).flu = s.flu := by
  simp [State.grantWritten]

@[simp] theorem State.takeService_flu : s.takeService.flu = s.flu := by
  unfold State.takeService
  split
  · split <;> rfl
  · rfl

@[simp] theorem State.serveGrantRequest_flu (h : Holder) (r : Request) : (s.serveGrantRequest h r).flu = s.flu := by
  unfold State.serveGrantRequest; split <;> simp

/-! ### Monitors -/

@[simp] theorem State.blankAfterClamp_flu (m : MonitorName) : (s.blankAfterClamp m).flu = s.flu := s.endClamp_flu _ _

@[simp] theorem State.answerCode_flu (p : PortName) (kind : MessageKind) (code : ReplyCode) :
    (s.answerCode p kind code).flu = s.flu := rfl

@[simp] theorem State.clampCleared_flu (r : Request) : (s.clampCleared r).flu = s.flu := by
  unfold State.clampCleared; split <;> simp

@[simp] theorem State.serveClampClear_flu (p : PortName) (r : Request) : (s.serveClampClear p r).flu = s.flu := by
  unfold State.serveClampClear; split <;> simp

@[simp] theorem State.shiftNoticed_flu : s.shiftNoticed.flu = s.flu := by
  unfold State.shiftNoticed; split <;> rfl

@[simp] theorem State.serveShiftNotice_flu : s.serveShiftNotice.flu = s.flu := by
  unfold State.serveShiftNotice; split <;> simp

/-! ### Ports -/

@[simp] theorem State.linkPresence_flu (p : PortName) : (s.linkPresence p).flu = s.flu := by
  unfold State.linkPresence; split <;> simp

@[simp] theorem State.arrive_flu (p : PortName) (r : Request) : (s.arrive p r).flu = s.flu := by
  unfold State.arrive
  dsimp only
  split <;> simp

@[simp] theorem State.endFrame_flu (p : PortName) : (s.endFrame p).flu = s.flu := by
  unfold State.endFrame
  dsimp only
  split <;> simp

@[simp] theorem State.changeReceiver_flu (p : PortName) (f : Receiver → Receiver) :
    (s.changeReceiver p f).flu = s.flu := rfl

@[simp] theorem State.byteArrives_flu (p : PortName) (byte : Byte) (fault : Bool) :
    (s.byteArrives p byte fault).flu = s.flu := by
  unfold State.byteArrives
  split
  · split <;> simp
  all_goals rfl

@[simp] theorem State.frameEnds_flu (p : PortName) : (s.frameEnds p).flu = s.flu := by
  unfold State.frameEnds; split <;> simp

@[simp] theorem State.linkHeld_flu (p : PortName) : (s.linkHeld p).flu = s.flu := by
  unfold State.linkHeld; split <;> simp

@[simp] theorem State.serveCheckTest_flu (p : PortName) (r : Request) : (s.serveCheckTest p r).flu = s.flu := by
  unfold State.serveCheckTest; split <;> rfl

/-! ### Samples, ride settings, the store -/

@[simp] theorem State.closeSession_flu : s.closeSession.flu = s.flu := rfl

@[simp] theorem State.silenceRises_flu (p : PortName) : (s.silenceRises p).flu = s.flu := by
  unfold State.silenceRises
  dsimp only
  split
  · split <;> simp
  · simp

@[simp] theorem State.cycleTimerExpires_flu : s.cycleTimerExpires.flu = s.flu := by
  unfold State.cycleTimerExpires; split <;> simp

@[simp] theorem State.sampleCompleted_flu : s.sampleCompleted.flu = s.flu := by
  unfold State.sampleCompleted State.endSensorWait
  dsimp only
  split_ifs <;> rfl

@[simp] theorem State.transactionCompletes_flu (block : Vector Byte 16) : (s.transactionCompletes block).flu = s.flu := by
  unfold State.transactionCompletes; split <;> simp

@[simp] theorem State.serveProfileSet_flu (r : Request) : (s.serveProfileSet r).flu = s.flu := by
  unfold State.serveProfileSet; split <;> simp

@[simp] theorem State.profileSetServed_flu (r : Request) : (s.profileSetServed r).flu = s.flu := by
  simp [State.profileSetServed, State.profileSetAt]

@[simp] theorem State.sampleService_flu (high : Bool) : (s.sampleService high).flu = s.flu := by
  unfold State.sampleService
  dsimp only
  split <;> rfl

@[simp] theorem State.serveOpen_flu : s.serveOpen.flu = s.flu := by
  unfold State.serveOpen; split <;> rfl

@[simp] theorem State.answerCalibration_flu (kind : MessageKind) (code : ReplyCode) (rest : List Byte) :
    (s.answerCalibration kind code rest).flu = s.flu := rfl

@[simp] theorem State.eraseCompletes_flu (k : Sector) (left : ArrayLeft) : (s.eraseCompletes k left).flu = s.flu := by
  simp [State.eraseCompletes]

@[simp] theorem State.programCompletes_flu (k : Sector) (offset : Nat) (bytes : List Byte) (left : ArrayLeft) :
    (s.programCompletes k offset bytes left).flu = s.flu := by
  simp [State.programCompletes]

@[simp] theorem State.lockCompletes_flu (left : ArrayLeft) : (s.lockCompletes left).flu = s.flu := by
  simp [State.lockCompletes]

@[simp] theorem State.wipeNext_flu (left : ArrayLeft) : (s.wipeNext left).flu = s.flu := by
  unfold State.wipeNext
  split
  · split <;> rfl
  all_goals rfl

@[simp] theorem State.wipeCompletes_flu : s.wipeCompletes.flu = s.flu := by
  unfold State.wipeCompletes
  split
  · split <;> rfl
  all_goals rfl

theorem State.whileOperating_flu {s t : State} (h : t.flu = s.flu) : (s.whileOperating t).flu = s.flu := by
  unfold State.whileOperating; split
  · exact h
  · rfl

end
end Sys2Proof.Machine
end

section
/-! PROOF. O14: every command keeps the friction learning unit's bounds. A command leaves the unit alone, or moves it through a
trigger taken, a report count, a budget computation, a stop, a release or a load, each of which keeps the bounds. -/
namespace Sys2Proof

/-- The commands that may move the friction learning unit. -/
def Instr.movesLearning : Instr → Bool
  | .estimatePublication | .coastCountExpiry | .settlingGoodCountReached | .delayCountExpiry _ | .softHoldExpiry _
  | .blankingExpiry _ | .hardAutoEnd _ | .budgetPublication | .reevaluationCompletion | .grantCountdownExpiry _
  | .toothCapture _ _ | .wheelRevalidated _ _ | .lockWindowExpiry _ | .grantRelease | .useReport | .loadCompletion => true
  | c => c.isSupervision

end Sys2Proof

namespace Sys2Proof.Machine

/-- A calibration request is refused with an answer, carried out, or none that the store serves (R167). -/
theorem leadsTo_serveCalibration_of {P : State → Prop} {s : State} {kind : MessageKind} {carryOut : Request → State}
    (hs : P s) (hanswer : ∀ kind code rest, P (s.answerCalibration kind code rest)) (hcarry : ∀ r, P (carryOut r)) :
    LeadsTo P (match s.calibrationServed kind with
      | none => go s
      | some r => go (s.whileOperating (s.serveCalibration r (carryOut r)))) := by
  split
  · exact leadsTo_go hs
  · refine leadsTo_operating hs ?_
    unfold State.serveCalibration
    split
    · exact hanswer _ _ _
    · exact hcarry _

/-- Every command but those of `movesLearning` leaves the friction learning unit as it was. -/
theorem exec_flu (c : Instr) (s : State) (hc : c.movesLearning = false) :
    LeadsTo (fun t => t.flu = s.flu) (exec c s) := by
  cases c with
  | cycleTimerExpiry => exact leadsTo_operating rfl s.cycleTimerExpires_flu
  | silenceCountExpiry p => exact leadsTo_occurring rfl (State.whileOperating_flu s.cycleTimerExpires_flu)
  | transactionCompletion block => exact leadsTo_operating rfl (s.transactionCompletes_flu block)
  | silenceExpiry w => exact leadsTo_operating rfl rfl
  | retainedRewriteCompletion =>
    refine leadsTo_operating rfl ?_
    unfold State.rewriteCompletes
    split <;> rfl
  | sensorWaitExpiry =>
    refine leadsTo_go ?_
    split <;> rfl
  | greServiceTake => exact leadsTo_operating rfl s.takeService_flu
  | linePeriodStart l => exact leadsTo_operating rfl rfl
  | linePulseEnd l => exact leadsTo_operating rfl rfl
  | receiveReadyExpiry p => exact leadsTo_operating rfl rfl
  | frameReceived p => exact leadsTo_operating rfl (s.frameEnds_flu p)
  | byteReceived p byte fault => exact leadsTo_operating rfl (s.byteArrives_flu p byte fault)
  | linkHold p => exact leadsTo_operating rfl (s.linkHeld_flu p)
  | transmitGapExpiry p => exact leadsTo_operating rfl rfl
  | frameSent p => exact leadsTo_operating rfl rfl
  | grantRequest =>
    simp only [exec, execGrantRequest]
    split
    · exact leadsTo_go rfl
    · exact leadsTo_operating rfl (s.serveGrantRequest_flu _ _)
  | clampClear p =>
    simp only [exec, execClampClear]
    split
    · exact leadsTo_go rfl
    · exact leadsTo_operating rfl (s.serveClampClear_flu p _)
  | shiftNotice =>
    simp only [exec, execShiftNotice]
    split
    · exact leadsTo_go rfl
    · exact leadsTo_operating rfl s.serveShiftNotice_flu
  | profileSet =>
    simp only [exec, execProfileSet]
    split
    · exact leadsTo_go rfl
    · exact leadsTo_operating rfl (s.profileSetServed_flu _)
  | checkTest p =>
    simp only [exec, execCheckTest]
    split
    · exact leadsTo_go rfl
    · exact leadsTo_operating rfl (s.serveCheckTest_flu p _)
  | calOpen =>
    simp only [exec, execCalOpen]
    split
    · exact leadsTo_go rfl
    · exact leadsTo_operating rfl s.serveOpen_flu
  | calClose => exact leadsTo_serveCalibration_of rfl (s.answerCalibration_flu · · ·) fun _ => rfl
  | calRead => exact leadsTo_serveCalibration_of rfl (s.answerCalibration_flu · · ·) fun _ => rfl
  | calErase => exact leadsTo_serveCalibration_of rfl (s.answerCalibration_flu · · ·) fun _ => rfl
  | calProgram => exact leadsTo_serveCalibration_of rfl (s.answerCalibration_flu · · ·) fun _ => rfl
  | calLock => exact leadsTo_serveCalibration_of rfl (s.answerCalibration_flu · · ·) fun _ => rfl
  | calWipe => exact leadsTo_serveCalibration_of rfl (s.answerCalibration_flu · · ·) fun _ => rfl
  | calEraseCompletion left =>
    simp only [exec, execCalEraseCompletion]
    split
    · exact leadsTo_operating rfl (s.eraseCompletes_flu _ left)
    all_goals exact leadsTo_go rfl
  | calProgramCompletion left =>
    simp only [exec, execCalProgramCompletion]
    split
    · exact leadsTo_operating rfl (s.programCompletes_flu _ _ _ left)
    all_goals exact leadsTo_go rfl
  | calLockCompletion left =>
    simp only [exec, execCalLockCompletion]
    split
    · exact leadsTo_operating rfl (s.lockCompletes_flu left)
    all_goals exact leadsTo_go rfl
  | wipeSectorEraseCompletion left => exact leadsTo_operating rfl (s.wipeNext_flu left)
  | calWipeCompletion left =>
    refine leadsTo_operating rfl ?_
    split <;> simp
  | svcSample high => exact leadsTo_operating rfl (s.sampleService_flu high)
  | svcAsserted => exact leadsTo_occurring rfl (State.whileOperating_flu (s.sampleService_flu true))
  | svcReleased => exact leadsTo_occurring rfl (State.whileOperating_flu (s.sampleService_flu false))
  | _ => cases hc

end Sys2Proof.Machine
end

section
/-! SUPPORT. What a monitor can do, once and for all: at a publication, a capture or a window's end it writes its own record,
ends its clamp, or triggers. Its moves leave the other monitors and their grants alone. -/
namespace Sys2Proof.Machine

/-- What a monitor's act makes of a state: nothing, its record, the end of its clamp, a trigger into SOFT or into HARD. -/
inductive MonitorMove (m : MonitorName) (s : State) : State → Prop where
  | rest : MonitorMove m s s
  | write (x : Monitor) : MonitorMove m s (s.setMonitor m x)
  | endClamp (x : Monitor) : MonitorMove m s (s.endClamp m x)
  | soft (target : Word16) : MonitorMove m s (s.triggerSoft m target)
  | hard (kind : TriggerKind) (target : Word16) : MonitorMove m s (s.triggerHard m kind target)

section
variable (s : State) (m : MonitorName)

/-! ### The acts (R111 to R121) -/

theorem State.idleMonitor_move : MonitorMove m s (s.idleMonitor m) := by
  unfold State.idleMonitor
  split
  · exact .endClamp _
  · exact .write _

theorem State.armedPublication_move (x : Int) (target : Word16) : MonitorMove m s (s.armedPublication m x target) := by
  unfold State.armedPublication
  split_ifs
  · exact .hard _ _
  · exact .soft _
  · exact .write _
  · exact .write _

theorem State.delayingPublication_move (x : Int) (target : Word16) :
    MonitorMove m s (s.delayingPublication m x target) := by
  unfold State.delayingPublication
  split_ifs
  · exact .hard _ _
  · exact .soft _
  · exact .write _
  · exact .write _

theorem State.softPublication_move (x : Int) (target : Word16) : MonitorMove m s (s.softPublication m x target) := by
  unfold State.softPublication
  split_ifs
  · exact .hard _ _
  · exact .hard _ _
  · exact .endClamp _
  · exact .write _

theorem State.hardPublication_move (x : Option Int) : MonitorMove m s (s.hardPublication m x) := by
  unfold State.hardPublication
  split_ifs
  · exact .endClamp _
  · exact .write _

theorem State.blankingPublication_move (x : Int) (target : Word16) :
    MonitorMove m s (s.blankingPublication m x target) := by
  unfold State.blankingPublication
  split_ifs
  · exact .hard _ _
  · exact .write _
  · exact .write _

theorem State.actOnPublication_move (p : Publication) : MonitorMove m s (s.actOnPublication m p) := by
  have hidle := s.idleMonitor_move m
  unfold State.actOnPublication
  dsimp only
  split
  · exact s.hardPublication_move m _
  · split
    · exact .rest
    · exact s.armedPublication_move m _ _
  · split
    · exact hidle
    · exact s.armedPublication_move m _ _
  · split
    · exact hidle
    · exact s.delayingPublication_move m _ _
  · split
    · exact hidle
    · exact s.softPublication_move m _ _
  · split
    · exact hidle
    · exact s.blankingPublication_move m _ _

/-- A monitor takes an event: it notes what it has seen in its record, then moves. -/
def MonitorTakes (m : MonitorName) (s t : State) : Prop := ∃ x, MonitorMove m (s.setMonitor m x) t

theorem State.monitorPublication_takes (p : Publication) : MonitorTakes m s (s.monitorPublication p m) :=
  ⟨_, State.actOnPublication_move _ m p⟩

theorem State.monitorCapture_takes (edge : Nat) (period : Option Nat) (seen : WheelState) :
    MonitorTakes m s (s.monitorCapture edge period seen m) := by
  unfold State.monitorCapture
  cases seen with
  | invalid =>
    dsimp only
    split
    · exact ⟨_, State.idleMonitor_move _ m⟩
    · exact ⟨_, .rest⟩
  | valid =>
    dsimp only
    split
    · exact ⟨_, .hard _ _⟩
    · exact ⟨_, .rest⟩

end

/-! ### What a move keeps -/

section
variable {m : MonitorName} {s t : State}

theorem MonitorMove.besideClamps_eq (h : MonitorMove m s t) : t.besideClamps = s.besideClamps := by
  cases h with
  | rest => rfl
  | write x => rfl
  | endClamp x => exact s.endClamp_besideClamps m x
  | soft target => exact s.triggerSoft_besideClamps m target
  | hard kind target => exact s.triggerHard_besideClamps m kind target

/-- A move touches its own monitor alone. -/
theorem MonitorMove.monitor_other (h : MonitorMove m s t) {j : MonitorName} (hj : j ≠ m) : t.monitor j = s.monitor j := by
  have hset (x : Monitor) : (s.slm.set m x).get j = s.slm.get j := PerMonitor.get_set_other _ _ _ _ hj
  cases h with
  | rest => rfl
  | write x => exact hset x
  | endClamp x => rw [State.monitor, State.endClamp_slm]; exact hset _
  | soft target => rw [State.monitor, State.triggerSoft_slm]; exact hset _
  | hard kind target => rw [State.monitor, State.triggerHard_slm]; exact hset _

/-- A move touches the grants of its own monitor alone. -/
theorem MonitorMove.grant_other (h : MonitorMove m s t) {k : GrantKey} (hk : k.monitor ≠ m) : t.grant k = s.grant k := by
  cases h with
  | rest => rfl
  | write x => rfl
  | endClamp x => rw [State.endClamp_grant, if_neg hk]
  | soft target => rw [State.triggerSoft_grant, if_neg hk]
  | hard kind target => rw [State.triggerHard_grant, if_neg hk]

/-- R67, R68: a taken trigger joins those that wait, is completed at once, or is not kept; none that waits leaves. -/
theorem State.takeTrigger_triggers (s : State) (m : MonitorName) (force : Nat) (target : Word16) :
    s.flu.triggers ⊆ (s.takeTrigger m force target).flu.triggers
      ∧ (s.takeTrigger m force target).flu.triggers.length ≤ s.flu.triggers.length + 1 := by
  unfold State.takeTrigger
  split
  · exact ⟨List.Subset.refl _, Nat.le_succ _⟩
  · split
    · exact ⟨List.Subset.refl _, Nat.le_succ _⟩
    · exact ⟨List.subset_append_left _ _, by simp⟩

/-- What a move makes of the friction learning unit: the report counts stand, and at most one trigger joins. -/
theorem MonitorMove.flu_spec (h : MonitorMove m s t) :
    t.flu.reports = s.flu.reports ∧ s.flu.triggers ⊆ t.flu.triggers
      ∧ t.flu.triggers.length ≤ s.flu.triggers.length + 1 := by
  have hsame {u : State} (hu : u.flu = s.flu) : u.flu.reports = s.flu.reports ∧ s.flu.triggers ⊆ u.flu.triggers
      ∧ u.flu.triggers.length ≤ s.flu.triggers.length + 1 := by
    rw [hu]; exact ⟨rfl, List.Subset.refl _, Nat.le_succ _⟩
  cases h with
  | rest => exact hsame rfl
  | write x => exact hsame rfl
  | endClamp x => exact hsame (s.endClamp_flu m x)
  | soft target =>
    have htaken := (s.clampGrants m (s.softRecord m) fun k => ((s.softCaps m).get k).getD 0).takeTrigger_triggers m
      (s.triggerForce m) target
    rw [State.clampGrants_flu] at htaken
    exact ⟨(s.triggerSoft_flu m target).1, htaken⟩
  | hard kind target =>
    have htaken := (s.clampGrants m ((s.monitor m).hardRecord kind) fun _ => 0).takeTrigger_triggers m
      (s.triggerForce m) target
    rw [State.clampGrants_flu] at htaken
    exact ⟨(s.triggerHard_flu m kind target).1, htaken⟩

/-! ### One monitor's turn among others (log 9) -/

/-- Two states that a monitor cannot tell apart: its record, its grants, the report counts and all that no clamp moves. -/
structure State.SameFor (m : MonitorName) (s t : State) : Prop where
  monitor : t.monitor m = s.monitor m
  grant : ∀ k, k.monitor = m → t.grant k = s.grant k
  reports : t.flu.reports = s.flu.reports
  besideClamps : t.besideClamps = s.besideClamps

namespace State.SameFor

theorem refl (m : MonitorName) (s : State) : SameFor m s s := ⟨rfl, fun _ _ => rfl, rfl, rfl⟩

theorem trans {u : State} (h : SameFor m s t) (h' : SameFor m t u) : SameFor m s u :=
  ⟨h'.monitor.trans h.monitor, fun k hk => (h'.grant k hk).trans (h.grant k hk), h'.reports.trans h.reports,
    h'.besideClamps.trans h.besideClamps⟩

variable (h : State.SameFor m s t)
include h

theorem cst : t.cst = s.cst := (congrArg State.cst h.besideClamps :)
theorem gbu : t.gbu = s.gbu := (congrArg State.gbu h.besideClamps :)
theorem leu : t.leu = s.leu := (congrArg State.leu h.besideClamps :)
theorem params : t.params = s.params := congrArg Cst.working h.cst
theorem profile : t.profile = s.profile := congrArg (fun x => x.settings.profile) h.gbu

/-- R67: the trigger's force is that of the monitor's own grants. -/
theorem triggerForce : t.triggerForce m = s.triggerForce m := by
  unfold State.triggerForce
  refine congrArg List.sum (List.map_congr_left fun k hk => ?_)
  simp only [State.slipForce, h.grant k ((mem_monitorKeys m k).mp hk), h.reports]

theorem grantedForce {k : GrantKey} (hk : k.monitor = m) : t.grantedForce k = s.grantedForce k := by
  rw [State.grantedForce, h.grant k hk, State.grantedForce]

end State.SameFor

/-- Another monitor's turn goes unnoticed, but for the trigger that may join those that wait. -/
theorem MonitorTakes.sameFor (h : MonitorTakes m s t) {j : MonitorName} (hj : j ≠ m) : State.SameFor j s t := by
  obtain ⟨x, hmove⟩ := h
  exact ⟨(hmove.monitor_other hj).trans (State.monitor_setMonitor_other _ _ _ _ hj),
    fun k hk => hmove.grant_other (hk ▸ hj), hmove.flu_spec.1, hmove.besideClamps_eq⟩

theorem MonitorTakes.triggers (h : MonitorTakes m s t) :
    s.flu.triggers ⊆ t.flu.triggers ∧ t.flu.triggers.length ≤ s.flu.triggers.length + 1 := by
  obtain ⟨x, hmove⟩ := h
  exact hmove.flu_spec.2

theorem MonitorTakes.besideClamps_eq (h : MonitorTakes m s t) : t.besideClamps = s.besideClamps := by
  obtain ⟨x, hmove⟩ := h
  exact hmove.besideClamps_eq

/-- Monitors that take an event in turn leave one that is not among them alone. -/
theorem foldl_takes_sameFor {op : State → MonitorName → State} (hop : ∀ s m, MonitorTakes m s (op s m)) :
    ∀ (ms : List MonitorName) (s : State), m ∉ ms → State.SameFor m s (ms.foldl op s)
      ∧ s.flu.triggers ⊆ (ms.foldl op s).flu.triggers
      ∧ (ms.foldl op s).flu.triggers.length ≤ s.flu.triggers.length + ms.length
  | [], s, _ => ⟨.refl m s, List.Subset.refl _, le_rfl⟩
  | j :: ms, s, hm => by
    obtain ⟨hj, hms⟩ := List.ne_and_not_mem_of_not_mem_cons hm
    obtain ⟨hsame, hkeep, hlength⟩ := foldl_takes_sameFor hop ms (op s j) hms
    obtain ⟨hkeep', hlength'⟩ := (hop s j).triggers
    refine ⟨((hop s j).sameFor hj).trans hsame, List.Subset.trans hkeep' hkeep, ?_⟩
    rw [List.length_cons]
    simp only [List.foldl_cons]
    omega

/-- One monitor's turn among those before and after it: it finds the state as it was for it, and what it does stands. -/
structure TakesTurn (op : State → MonitorName → State) (m : MonitorName) (before : Nat) (s u t : State) : Prop where
  finds : State.SameFor m s u
  waiting : u.flu.triggers.length ≤ s.flu.triggers.length + before
  stands : State.SameFor m (op u m) t
  keeps : (op u m).flu.triggers ⊆ t.flu.triggers

theorem takesTurn {op : State → MonitorName → State} (hop : ∀ s m, MonitorTakes m s (op s m)) (s : State)
    {before after : List MonitorName} (hbefore : m ∉ before) (hafter : m ∉ after) :
    TakesTurn op m before.length s (before.foldl op s) ((before ++ m :: after).foldl op s) := by
  obtain ⟨hfinds, -, hwaiting⟩ := foldl_takes_sameFor hop before s hbefore
  obtain ⟨hstands, hkeeps, -⟩ := foldl_takes_sameFor hop after (op (before.foldl op s) m) hafter
  rw [List.foldl_append, List.foldl_cons]
  exact ⟨hfinds, hwaiting, hstands, hkeeps⟩

end
end Sys2Proof.Machine
end

section
/-! PROOF. O14, the commands that do move the friction learning unit. -/
namespace Sys2Proof.Machine

/-! ### What the bounds say -/

theorem eventsKept_iff (events : List SlipEvent) :
    eventsKept events = true ↔ events.length ≤ 8 ∧ ∀ e ∈ events, e.inRange = true := by
  simp [eventsKept]

theorem SlipEvent.inRange_iff (e : SlipEvent) :
    e.inRange = true ↔ 100 ≤ e.muObs ∧ e.muObs ≤ 1300 ∧ e.age ≤ 65535 := by
  simp [SlipEvent.inRange, and_assoc]

/-- The friction learning unit's bounds, by name (R66, R68, R70, R72). -/
structure Flu.Kept (x : Flu) : Prop where
  events : eventsKept x.events = true
  triggers : x.triggers.length ≤ 6
  learned_ge : 100 ≤ x.learned
  learned_le : x.learned ≤ 1300
  reports : ∀ k, x.reports.get k ≤ 25

/-- A test of the retained record's contents and of the copy a rewrite writes, as a fact of each of the two. -/
theorem Sup.eachContents_iff (x : Sup) (test : RecordContents → Bool) :
    x.eachContents test = true ↔ ∀ c, x.record.contents = some c ∨ x.rewrite = some c → test c = true := by
  simp only [Sup.eachContents, Bool.and_eq_true, Option.all_eq_true, or_imp, forall_and]

/-- The supervisor's record and copy keep their slip events in bounds (R191). -/
abbrev Sup.EventsKept (x : Sup) : Prop := x.eachContents (fun c => eventsKept c.events) = true

theorem State.learningKept_iff (s : State) : s.learningKept = true ↔ s.flu.Kept ∧ s.sup.EventsKept := by
  have hreports : eachKey (fun k => decide (s.flu.reports.get k ≤ 25)) = true ↔ ∀ k, s.flu.reports.get k ≤ 25 := by
    simp only [eachKey, List.all_eq_true, decide_eq_true_eq, mem_allKeys, true_imp_iff]
  simp only [State.learningKept, Bool.and_eq_true, decide_eq_true_eq, hreports]
  constructor
  · rintro ⟨⟨⟨⟨⟨hevents, htriggers⟩, hge⟩, hle⟩, hcounts⟩, hsup⟩
    exact ⟨⟨hevents, htriggers, hge, hle, hcounts⟩, hsup⟩
  · rintro ⟨⟨hevents, htriggers, hge, hle, hcounts⟩, hsup⟩
    exact ⟨⟨⟨⟨⟨hevents, htriggers⟩, hge⟩, hle⟩, hcounts⟩, hsup⟩

/-! ### Slip events (R69 to R72, R74) -/

/-- R69: the event of a trigger is in range, at age 0. -/
theorem slipEvent_inRange {q : BudgetPublication} {m : MonitorName} {force : Nat} {e : SlipEvent}
    (h : slipEvent q m force = some e) : e.inRange = true := by
  unfold slipEvent at h
  dsimp only at h
  split at h
  · cases h
  · cases h
    exact (SlipEvent.inRange_iff _).mpr
      ⟨le_clampNat (by decide) _, clampNat_le (by decide) _, Nat.zero_le _⟩

/-- A highest contribution above 0 is a member's. -/
theorem exists_contribution_eq_highest {recover : Nat} {events : List SlipEvent}
    (h : 0 < highestContribution recover events) :
    ∃ e ∈ events, e.contribution recover = highestContribution recover events := by
  have hfold : highestContribution recover events = 0
      ∨ ∃ e ∈ events, e.contribution recover = highestContribution recover events := by
    unfold highestContribution
    refine List.foldlRecOn events _ (motive := fun x => x = 0 ∨ ∃ e ∈ events, e.contribution recover = x) (.inl rfl)
      fun x hx e he => ?_
    rcases max_choice x (e.contribution recover) with hmax | hmax
    · rw [hmax]; exact hx
    · rw [hmax]; exact .inr ⟨e, he, rfl⟩
  exact hfold.resolve_left h.ne'

/-- R70: an offer to a list in bounds leaves it in bounds: a full list takes an event only in another's place. -/
theorem offerEvent_kept {recover : Nat} {events : List SlipEvent} {e : SlipEvent} (hevents : eventsKept events = true)
    (he : e.inRange = true) : eventsKept (offerEvent recover events e) = true := by
  obtain ⟨hlength, hall⟩ := (eventsKept_iff _).mp hevents
  unfold offerEvent
  split
  next hroom =>
    refine (eventsKept_iff _).mpr ⟨by simpa using hroom, fun x hx => ?_⟩
    rcases List.mem_append.mp hx with hx | hx
    · exact hall x hx
    · exact List.mem_singleton.mp hx ▸ he
  next hfull =>
    split
    next hlower =>
      obtain ⟨y, hy, heq⟩ := exists_contribution_eq_highest (Nat.zero_lt_of_lt hlower)
      have hleaves := List.length_eraseP_of_mem (p := fun x => x.contribution recover == highestContribution recover events)
        hy (by simpa using heq)
      refine (eventsKept_iff _).mpr ⟨?_, fun x hx => ?_⟩
      · rw [List.length_append, hleaves, List.length_singleton]
        omega
      · rcases List.mem_append.mp hx with hx | hx
        · exact hall x (List.mem_of_mem_eraseP hx)
        · exact List.mem_singleton.mp hx ▸ he
    next => exact hevents

/-- R69, R70: a completed trigger leaves the list in bounds. -/
theorem completeTrigger_kept {recover : Nat} {q : BudgetPublication} {events : List SlipEvent} (x : PendingTrigger)
    (h : eventsKept events = true) : eventsKept (completeTrigger recover q events x) = true := by
  unfold completeTrigger
  split
  · exact h
  next he => exact offerEvent_kept h (slipEvent_inRange he)

/-- R71: the events that remain of a list in bounds are in bounds. -/
theorem remainingEvents_kept {recover muNom : Nat} {events : List SlipEvent} (h : eventsKept events = true) :
    eventsKept (remainingEvents recover muNom events) = true := by
  obtain ⟨hlength, hall⟩ := (eventsKept_iff _).mp h
  refine (eventsKept_iff _).mpr ⟨?_, fun e he => ?_⟩
  · calc (remainingEvents recover muNom events).length
      _ ≤ (events.map SlipEvent.aged).length := List.length_filter_le _ _
      _ ≤ 8 := by rwa [List.length_map]
  · obtain ⟨x, hx, rfl⟩ := List.mem_map.mp (mem_remainingEvents.mp he).1
    obtain ⟨hge, hle, _⟩ := (SlipEvent.inRange_iff x).mp (hall x hx)
    exact (SlipEvent.inRange_iff _).mpr ⟨hge, hle, Nat.min_le_left _ _⟩

/-- R74: events that have aged by an outage are in bounds. -/
theorem eventsKept_after {events : List SlipEvent} (outage : Nat) (h : eventsKept events = true) :
    eventsKept (events.map fun e => e.after outage) = true := by
  obtain ⟨hlength, hall⟩ := (eventsKept_iff _).mp h
  refine (eventsKept_iff _).mpr ⟨by rwa [List.length_map], fun e he => ?_⟩
  obtain ⟨x, hx, rfl⟩ := List.mem_map.mp he
  obtain ⟨hge, hle, _⟩ := (SlipEvent.inRange_iff x).mp (hall x hx)
  exact (SlipEvent.inRange_iff _).mpr ⟨hge, hle, Nat.min_le_left _ _⟩

/-- R72: a nominal and events in bounds give a learned friction in bounds. -/
theorem learnedFriction_bounds {recover muNom : Nat} {events : List SlipEvent} (hlo : 100 ≤ muNom) (hhi : muNom ≤ 1300)
    (h : eventsKept events = true) :
    100 ≤ learnedFriction recover muNom events ∧ learnedFriction recover muNom events ≤ 1300 := by
  obtain ⟨hnom, -, hleast⟩ := learnedFriction_least recover muNom events
  refine ⟨?_, hnom.trans hhi⟩
  rcases hleast with heq | ⟨e, he, heq⟩
  · exact hlo.trans_eq heq.symm
  · calc
      100 ≤ e.muObs := ((SlipEvent.inRange_iff e).mp (((eventsKept_iff _).mp h).2 e he)).1
      _ ≤ e.contribution recover := Nat.le_add_right _ _
      _ = _ := heq.symm

theorem WorkingCopy.muNom_le (c : WorkingCopy) (p : Profile) : c.muNom p ≤ 1300 := clampNat_le (by decide) _

/-! ### The unit's own operations -/

theorem Flu.cold_kept : Flu.cold.Kept :=
  ⟨rfl, by decide, by decide, by decide, fun k => by cases k <;> decide⟩

/-- R75: a stop drops the pending triggers. -/
theorem Flu.stopped_kept {x : Flu} (h : x.Kept) : x.stopped.Kept :=
  { h with triggers := Nat.zero_le _ }

/-- R74: the unit at a warm release. -/
theorem Flu.warm_kept {c : RecordContents} (h : eventsKept c.events = true) (outage : Nat) : (Flu.warm c outage).Kept :=
  { Flu.cold_kept with events := eventsKept_after outage h }

/-- R66: a report count set within its range. -/
theorem Flu.setReport_kept {x : Flu} (h : x.Kept) (k : GrantKey) {n : Nat} (hn : n ≤ 25) :
    ({ x with reports := x.reports.set k n } : Flu).Kept :=
  { h with
    reports := fun j => by
      rw [PerKey.get_set]
      split
      · exact hn
      · exact h.reports j }

/-- R66, R71, R72: the friction stage against a nominal in range. -/
theorem Flu.frictionStage_kept {x : Flu} (h : x.Kept) (recover : Nat) {muNom : Nat} (hlo : 100 ≤ muNom)
    (hhi : muNom ≤ 1300) : (x.frictionStage recover muNom).Kept where
  events := remainingEvents_kept h.events
  triggers := h.triggers
  learned_ge := (learnedFriction_bounds hlo hhi (remainingEvents_kept h.events)).1
  learned_le := (learnedFriction_bounds hlo hhi (remainingEvents_kept h.events)).2
  reports := fun k => by
    have := h.reports k
    simp only [Flu.frictionStage, agedReports_get]
    omega

/-- R68 to R70: triggers leave as they are completed. -/
theorem Flu.completeTriggers_kept {x : Flu} (h : x.Kept) (recover : Nat) (q : BudgetPublication) :
    (x.completeTriggers recover q).Kept :=
  { h with
    events := List.foldlRecOn _ _ (motive := fun events => eventsKept events = true) h.events
      fun _ hevents t _ => completeTrigger_kept t hevents
    triggers := (List.length_filter_le _ _).trans h.triggers }

section
variable {s : State}

/-! ### Triggers taken (R67, R68) -/

theorem State.takeTrigger_kept (h : s.flu.Kept) (m : MonitorName) (force : Nat) (target : Word16) :
    (s.takeTrigger m force target).flu.Kept := by
  unfold State.takeTrigger
  split
  · exact h
  next hkept =>
    split
    · exact { h with events := completeTrigger_kept _ h.events }
    · refine { h with triggers := ?_ }
      simp only [State.setFlu_flu, List.length_append, List.length_singleton]
      omega

/-- A monitor's move keeps the bounds: at most it has a trigger taken. -/
theorem MonitorMove.kept {m : MonitorName} {t : State} (hmove : MonitorMove m s t) (h : s.flu.Kept) : t.flu.Kept := by
  cases hmove with
  | rest => exact h
  | write x => exact h
  | endClamp x => rwa [State.endClamp_flu]
  | soft target => exact State.takeTrigger_kept (by rwa [State.clampGrants_flu]) _ _ _
  | hard kind target => exact State.takeTrigger_kept (by rwa [State.clampGrants_flu]) _ _ _

theorem MonitorTakes.kept {m : MonitorName} {t : State} (htakes : MonitorTakes m s t) (h : s.flu.Kept) : t.flu.Kept := by
  obtain ⟨x, hmove⟩ := htakes
  exact hmove.kept h

theorem State.monitorsPublication_kept (h : s.flu.Kept) (p : Publication) : (s.monitorsPublication p).flu.Kept :=
  (State.monitorPublication_takes _ _ p).kept
    ((State.monitorPublication_takes _ _ p).kept ((State.monitorPublication_takes _ _ p).kept h))

theorem State.handOnCapture_kept (h : s.flu.Kept) (w : Wheel) (edge : Nat) (period : Option Nat) (seen : WheelState) :
    (s.handOnCapture w edge period seen).flu.Kept := by
  have hone {t : State} (ht : t.flu.Kept) (m : MonitorName) : (t.monitorCapture edge period seen m).flu.Kept :=
    (t.monitorCapture_takes m edge period seen).kept ht
  cases w with
  | front => exact hone h _
  | rear => exact hone (hone h _) _

theorem State.captureTooth_kept (h : s.flu.Kept) (w : Wheel) (edge : Nat) : (s.captureTooth w edge).flu.Kept :=
  State.handOnCapture_kept (s := s.setWheel w _) h _ _ _ _

theorem State.lockWindowExpires_kept (h : s.flu.Kept) (m : MonitorName) : (s.lockWindowExpires m).flu.Kept := by
  unfold State.lockWindowExpires
  split
  · exact h
  · dsimp only
    split
    · exact (MonitorMove.hard (s := s.setMonitor m _) _ _).kept h
    · exact h

/-! ### Reports and computations (R66, R71, R72) -/

/-- R66: a grant removed takes its report count with it. -/
theorem State.writeGrant_kept (h : s.flu.Kept) (k : GrantKey) (g : Option Grant) : (s.writeGrant k g).flu.Kept := by
  rw [State.writeGrant_flu]
  split
  · exact Flu.setReport_kept h k (Nat.zero_le _)
  · exact h

theorem State.countDown_kept (h : s.flu.Kept) : s.countDown.flu.Kept := by
  have hone {t : State} (ht : t.flu.Kept) (k : GrantKey) : (t.countDownKey k).flu.Kept := by
    unfold State.countDownKey
    split
    · exact ht
    · exact State.writeGrant_kept ht _ _
  exact hone (hone (hone (hone h _) _) _) _

theorem State.completeReevaluation_kept (h : s.flu.Kept) : s.completeReevaluation.flu.Kept := by
  unfold State.completeReevaluation
  split
  · simpa using State.countDown_kept h
  · exact h

theorem State.serveGrantRelease_kept (h : s.flu.Kept) (holder : Holder) (r : Request) :
    (s.serveGrantRelease holder r).flu.Kept := by
  unfold State.serveGrantRelease
  split
  · split
    · exact State.writeGrant_kept h _ _
    · exact h
  · exact h
  · exact h

theorem State.useReported_kept (h : s.flu.Kept) (holder : Holder) (r : Request) : (s.useReported holder r).flu.Kept := by
  unfold State.useReported
  split
  · unfold State.takeReport
    split
    · exact h
    · exact Flu.setReport_kept h _ le_rfl
  · exact h
  · exact h

theorem State.publishBudget_kept (h : s.flu.Kept) : s.publishBudget.flu.Kept := by
  unfold State.publishBudget
  split
  · split
    · exact h
    · rw [State.computeBudget_eq]
      exact Flu.completeTriggers_kept
        (Flu.frictionStage_kept h _ (WorkingCopy.le_muNom _ _) (WorkingCopy.muNom_le _ _)) _ _
  · exact h

/-- R73, R74: the learned friction at the load. -/
theorem State.loadCompletes_kept (h : s.flu.Kept) : s.loadCompletes.flu.Kept := by
  unfold State.loadCompletes
  split
  · dsimp only
    unfold State.loadedFlu
    split
    · exact { h with learned_ge := WorkingCopy.le_muNom _ _, learned_le := WorkingCopy.muNom_le _ _ }
    · have hlearned := learnedFriction_bounds (recover := s.cst.flash.load.recoverCycles)
        (WorkingCopy.le_muNom s.cst.flash.load s.profile) (WorkingCopy.muNom_le _ _) h.events
      exact { h with learned_ge := hlearned.1, learned_le := hlearned.2 }
  · exact h

end
end Sys2Proof.Machine
end

section
/-! SUPPORT. What the supervisor's commands are made of: a law that its parts keep, every one of these commands keeps. -/
namespace Sys2Proof.Machine

/-- A law of the state that holds through what the supervisor's commands are made of: a sense or a start state changed with
the retained record's contents as they were, every block stopped, a release, and the loss of the record (R180 to R186). -/
structure KeptUnderSupervision (P : State → Prop) : Prop where
  sense : ∀ s x, x.record.contents = s.sup.record.contents → x.rewrite = s.sup.rewrite →
    (x.start = s.sup.start ∨ x.start = .off ∨ x.start = .reset) → P s → P (s.setSup x)
  stop : ∀ s, P s → P s.stopBlocks
  release : ∀ s, P s → P s.release
  lose : ∀ s x, x.record.contents = none → x.rewrite = none → x.start = .off → P s → P (s.setSup x)

namespace KeptUnderSupervision

variable {P : State → Prop} (h : KeptUnderSupervision P) {s : State} (hs : P s)
include h hs

/-- A sense changed that leaves the start state and the record alone. -/
theorem sensed {x : Sup} (hrecord : x.record = s.sup.record) (hrewrite : x.rewrite = s.sup.rewrite)
    (hstart : x.start = s.sup.start) : P (s.setSup x) :=
  h.sense s x (congrArg _ hrecord) hrewrite (.inl hstart) hs

theorem holdEnds : P s.holdEnds := by
  unfold State.holdEnds
  split
  · exact h.release s hs
  · exact hs

theorem stopped : P s.stopped := by
  unfold State.stopped
  split
  · exact h.stop s hs
  · exact hs

theorem enterReset (cause : EntryCause) : P (s.enterReset cause) := by
  unfold State.enterReset
  split
  · exact h.sense _ _ rfl rfl (.inr (.inr rfl)) (h.stop s hs)
  · exact hs

theorem enterOff : P s.enterOff := h.sense _ _ rfl rfl (.inr (.inl rfl)) (h.stopped hs)

theorem offEnds : P s.offEnds := by
  unfold State.offEnds
  split
  · exact h.holdEnds (h.sense _ _ rfl rfl (.inr (.inr rfl)) hs)
  · exact hs

theorem sampleWarning (mv : Nat) : P (s.sampleWarning mv) := by
  obtain ⟨low, count, hsample⟩ := s.sup.sampleWarning_eq mv
  refine State.whileOperating_keeps hs (h.sensed hs ?_ ?_ ?_)
  all_goals rw [hsample]

theorem sampleLoss (mv : Nat) : P (s.sampleLoss mv) := by
  obtain ⟨tripped, count, hsample⟩ := s.sup.sampleLoss_eq mv
  have ht : P (s.setSup (s.sup.sampleLoss mv)) := by rw [hsample]; exact h.sensed hs rfl rfl rfl
  unfold State.sampleLoss
  dsimp only
  split_ifs
  · exact h.enterReset ht _
  · exact h.holdEnds ht
  · exact ht

theorem supplySampled (mv : Nat) : P (s.supplySampled mv) := h.sampleLoss (h.sampleWarning hs mv) mv

theorem ignitionSampled (high : Bool) : P (s.ignitionSampled high) := by
  obtain ⟨level, count, hsample⟩ := s.sup.sampleIgnition_eq high
  have ht : P (s.setSup (s.sup.sampleIgnition high)) := by rw [hsample]; exact h.sensed hs rfl rfl rfl
  unfold State.ignitionSampled
  dsimp only
  split_ifs
  · exact h.enterOff ht
  · exact h.offEnds ht
  · exact ht

theorem retainedTick (high : Bool) : P (s.retainedTick high) := by
  refine h.ignitionSampled ?_ high
  unfold State.outageTicked
  split
  · exact hs
  · exact h.sensed hs rfl rfl rfl

/-- Every command of the supervisor's senses keeps the law. -/
theorem exec {c : Instr} (hc : c.isSupervision = true) : LeadsTo P (exec c s) := by
  cases c with
  | supplySample mv => exact leadsTo_go (h.supplySampled hs mv)
  | supplyLossTrip mv => exact leadsTo_occurring hs (h.supplySampled hs mv)
  | supplyLossClear mv => exact leadsTo_occurring hs (h.supplySampled hs mv)
  | lowSupplySet mv => exact leadsTo_occurring hs (h.supplySampled hs mv)
  | lowSupplyClear mv => exact leadsTo_occurring hs (h.supplySampled hs mv)
  | rstNAssert =>
    refine leadsTo_go (h.enterReset (h.sensed hs ?_ ?_ ?_) _)
    all_goals rfl
  | mainDomainPowerUp =>
    refine leadsTo_go (h.enterReset (h.sensed hs ?_ ?_ ?_) _)
    all_goals rfl
  | rstNRelease =>
    refine leadsTo_go ?_
    split
    · exact h.holdEnds (h.sensed hs rfl rfl rfl)
    · exact hs
  | retainedMsTick high => exact leadsTo_go (h.retainedTick hs high)
  | ignitionOff => exact leadsTo_occurring hs (h.retainedTick hs false)
  | ignitionOn => exact leadsTo_occurring hs (h.retainedTick hs true)
  | retainedDomainPowerUp => exact leadsTo_go (h.lose _ _ rfl rfl rfl (h.stopped hs))
  | _ => cases hc

end KeptUnderSupervision

/-! ### The retained record under a test of its contents -/

section
variable {x : Sup} {test : RecordContents → Bool} (h : x.eachContents test = true)
include h

theorem Sup.eachContents_of_eq {y : Sup} (hrecord : y.record.contents = x.record.contents)
    (hrewrite : y.rewrite = x.rewrite) : y.eachContents test = true := by
  unfold Sup.eachContents
  rw [hrecord, hrewrite]
  exact h

/-- R191: a stop cuts a rewrite short, and the record is lost with it. -/
theorem Sup.stopped_eachContents : x.stopped.eachContents test = true := by
  unfold Sup.stopped
  split
  · exact h
  · rfl

theorem Sup.released_eachContents : x.released.eachContents test = true := by
  rw [Sup.eachContents_iff] at h ⊢
  rintro c (hc | ⟨⟨⟩⟩)
  exact h c (.inl hc)

/-- R187: what a warm start takes has passed the test. -/
theorem Sup.eachContents_warm {c : RecordContents} (hc : x.warmContents = some c) : test c = true :=
  (Sup.eachContents_iff _ _).mp h c (.inl ((x.warmContents_iff c).mp hc).2.2.1)

/-- R191: a rewrite's copy becomes the record. -/
theorem Sup.rewritten_eachContents {c : RecordContents} (hc : x.rewrite = some c) :
    (x.rewritten c).eachContents test = true := by
  rw [Sup.eachContents_iff] at h ⊢
  rintro d (⟨⟨⟩⟩ | ⟨⟨⟩⟩)
  exact h c (.inr hc)

/-- R191: a rewrite starts with a copy that passes the test. -/
theorem Sup.rewriting_eachContents {c : RecordContents} (valid : Bool) (hc : test c = true) :
    ({ x with record := { x.record with valid := valid }, rewrite := some c } : Sup).eachContents test = true := by
  rw [Sup.eachContents_iff] at h ⊢
  rintro d (hd | ⟨⟨⟩⟩)
  · exact h d (.inl hd)
  · exact hc

end

theorem Sup.eachContents_of_lost {x : Sup} {test : RecordContents → Bool} (hrecord : x.record.contents = none)
    (hrewrite : x.rewrite = none) : x.eachContents test = true := by
  simp [Sup.eachContents, hrecord, hrewrite]

end Sys2Proof.Machine
end

section
/-! PROOF. O14, assembled: the friction learning unit and the retained record, command by command. -/
namespace Sys2Proof.Machine

theorem learningKept_underSupervision : KeptUnderSupervision fun s => s.flu.Kept ∧ s.sup.EventsKept where
  sense := fun _ _ hrecord hrewrite _ ⟨hflu, hsup⟩ => ⟨hflu, Sup.eachContents_of_eq hsup hrecord hrewrite⟩
  stop := fun _ ⟨hflu, hsup⟩ => ⟨Flu.stopped_kept hflu, Sup.stopped_eachContents hsup⟩
  release := fun s ⟨_, hsup⟩ => by
    refine ⟨?_, by rw [State.release_sup]; exact Sup.released_eachContents hsup⟩
    unfold State.release
    split
    next hc => exact Flu.warm_kept (Sup.eachContents_warm hsup hc) _
    next => exact Flu.cold_kept
  lose := fun _ _ hrecord hrewrite _ ⟨hflu, _⟩ => ⟨hflu, Sup.eachContents_of_lost hrecord hrewrite⟩

section
variable {s : State} (hflu : s.flu.Kept) (hsup : s.sup.EventsKept)
include hflu hsup

/-- R191: the copy a re-evaluation's rewrite takes carries the unit's own events. -/
theorem State.completeReevaluation_eventsKept : s.completeReevaluation.sup.EventsKept := by
  unfold State.completeReevaluation
  split
  · have hquiet : s.countDown.reshare.freeEngine.queueStatus.senses = s.senses := by simp
    obtain ⟨-, -, hsame⟩ := State.senses_eq_iff.mp hquiet
    have hkept : s.countDown.reshare.freeEngine.queueStatus.flu.Kept := by simpa using State.countDown_kept hflu
    exact Sup.rewriting_eachContents (by rw [hsame]; exact hsup) false hkept.events
  · exact hsup

end

section
variable {s : State}

theorem State.publishEstimate_kept (hflu : s.flu.Kept) : s.publishEstimate.flu.Kept := by
  by_cases hidle : s.leu.work = .idle
  · simpa only [State.publishEstimate, hidle, if_true] using hflu
  · rw [State.publishEstimate_eq hidle]
    refine State.monitorsPublication_kept ?_ _
    simpa only [State.setGbu_flu, State.setLeu_flu] using hflu

/-- A supervisor whose record and copy stand keeps their events in bounds. -/
theorem State.eventsKept_of_record {t : State} (h : t.sup.record = s.sup.record ∧ t.sup.rewrite = s.sup.rewrite)
    (hsup : s.sup.EventsKept) : t.sup.EventsKept :=
  Sup.eachContents_of_eq hsup (congrArg _ h.1) h.2

theorem State.publishEstimate_sup : s.publishEstimate.sup = s.sup := by
  by_cases hidle : s.leu.work = .idle
  · simp only [State.publishEstimate, hidle, if_true]
  · rw [State.publishEstimate_eq hidle]
    exact (State.senses_eq_iff.mp (State.monitorsPublication_senses _ _)).2.2

theorem State.cycleTimerExpires_sup : s.cycleTimerExpires.sup = s.sup := by
  have hone (t : State) (p : PortName) : (t.silenceRises p).sup = t.sup :=
    (State.senses_eq_iff.mp (t.silenceRises_senses p)).2.2
  unfold State.cycleTimerExpires
  split
  · rfl
  · rw [hone, hone, hone]; rfl

theorem State.captureTooth_sup (w : Wheel) (edge : Nat) : (s.captureTooth w edge).sup = s.sup :=
  (State.senses_eq_iff.mp (State.handOnCapture_senses _ _ _ _ _)).2.2

theorem State.transactionCompletes_record (block : Vector Byte 16) :
    (s.transactionCompletes block).sup.record = s.sup.record
      ∧ (s.transactionCompletes block).sup.rewrite = s.sup.rewrite := by
  unfold State.transactionCompletes
  split
  · unfold State.sampleCompleted State.endSensorWait
    dsimp only
    split_ifs <;> exact ⟨rfl, rfl⟩
  · exact ⟨rfl, rfl⟩

/-! ### Every step -/

/-- Every command but the supervisor's keeps the unit's own bounds. -/
theorem exec_fluKept (c : Instr) (hc : c.isSupervision = false) (h : s.flu.Kept) :
    LeadsTo (fun t => t.flu.Kept) (exec c s) := by
  by_cases hquiet : c.movesLearning = false
  · exact fun t ht => by simpa only [exec_flu c s hquiet t ht] using h
  have hmoves : (c.movesLearning && !c.isSupervision) = true := by
    rw [Bool.eq_true_of_not_eq_false hquiet, hc]; rfl
  have hestimate : s.estimateStep.flu.Kept :=
    State.whileOperating_keeps (P := fun t => t.flu.Kept) h (State.publishEstimate_kept h)
  have hreeval : (s.whileOperating s.completeReevaluation).flu.Kept :=
    State.whileOperating_keeps (P := fun t => t.flu.Kept) h (State.completeReevaluation_kept h)
  have hcapture (w : Wheel) (edge : Nat) : (s.whileOperating (s.captureTooth w edge)).flu.Kept :=
    State.whileOperating_keeps (P := fun t => t.flu.Kept) h (State.captureTooth_kept h w edge)
  cases c with
  | estimatePublication => exact leadsTo_go hestimate
  | coastCountExpiry => exact leadsTo_occurring h hestimate
  | settlingGoodCountReached => exact leadsTo_occurring h hestimate
  | delayCountExpiry m => exact leadsTo_occurring h hestimate
  | softHoldExpiry m => exact leadsTo_occurring h hestimate
  | blankingExpiry m => exact leadsTo_occurring h hestimate
  | hardAutoEnd m => exact leadsTo_occurring h hestimate
  | budgetPublication => exact leadsTo_operating h (State.publishBudget_kept h)
  | reevaluationCompletion => exact leadsTo_go hreeval
  | grantCountdownExpiry k => exact leadsTo_occurring h hreeval
  | toothCapture w edge => exact leadsTo_go (hcapture w edge)
  | wheelRevalidated w edge => exact leadsTo_occurring h (hcapture w edge)
  | lockWindowExpiry m => exact leadsTo_operating h (State.lockWindowExpires_kept h m)
  | grantRelease =>
    simp only [exec, execGrantRelease]
    split
    · exact leadsTo_go h
    · exact leadsTo_operating h (State.serveGrantRelease_kept h _ _)
  | useReport =>
    simp only [exec, execUseReport]
    split
    · exact leadsTo_go h
    · exact leadsTo_operating h (State.useReported_kept h _ _)
  | loadCompletion => exact leadsTo_go (State.loadCompletes_kept h)
  | _ => cases hmoves

/-- Every command but the supervisor's keeps the record's events in bounds: a rewrite takes the unit's own (R191). -/
theorem exec_eventsKept (c : Instr) (hc : c.isSupervision = false) (hflu : s.flu.Kept) (hsup : s.sup.EventsKept) :
    LeadsTo (fun t => t.sup.EventsKept) (exec c s) := by
  by_cases hquiet : c.movesSenses = false
  · intro t ht
    obtain ⟨-, -, hsame⟩ := State.senses_eq_iff.mp (exec_senses c s hquiet t ht)
    rw [hsame]
    exact hsup
  have hmoves : (c.movesSenses && !c.isSupervision) = true := by
    rw [Bool.eq_true_of_not_eq_false hquiet, hc]; rfl
  have hwhile {t : State} (ht : t.sup.EventsKept) : (s.whileOperating t).sup.EventsKept :=
    State.whileOperating_keeps (P := fun u => u.sup.EventsKept) hsup ht
  have hestimate : s.estimateStep.sup.EventsKept := hwhile (by rwa [State.publishEstimate_sup])
  have hcycle : (s.whileOperating s.cycleTimerExpires).sup.EventsKept := hwhile (by rwa [State.cycleTimerExpires_sup])
  have hcapture (w : Wheel) (edge : Nat) : (s.whileOperating (s.captureTooth w edge)).sup.EventsKept :=
    hwhile (by rwa [State.captureTooth_sup])
  have hreeval := hwhile (State.completeReevaluation_eventsKept hflu hsup)
  cases c with
  | cycleTimerExpiry => exact leadsTo_go hcycle
  | silenceCountExpiry p => exact leadsTo_occurring hsup hcycle
  | transactionCompletion block =>
    exact leadsTo_go (hwhile (State.eventsKept_of_record (State.transactionCompletes_record block) hsup))
  | toothCapture w edge => exact leadsTo_go (hcapture w edge)
  | wheelRevalidated w edge => exact leadsTo_occurring hsup (hcapture w edge)
  | silenceExpiry w => exact leadsTo_operating hsup hsup
  | estimatePublication => exact leadsTo_go hestimate
  | coastCountExpiry => exact leadsTo_occurring hsup hestimate
  | settlingGoodCountReached => exact leadsTo_occurring hsup hestimate
  | delayCountExpiry m => exact leadsTo_occurring hsup hestimate
  | softHoldExpiry m => exact leadsTo_occurring hsup hestimate
  | blankingExpiry m => exact leadsTo_occurring hsup hestimate
  | hardAutoEnd m => exact leadsTo_occurring hsup hestimate
  | reevaluationCompletion => exact leadsTo_go hreeval
  | grantCountdownExpiry k => exact leadsTo_occurring hsup hreeval
  | retainedRewriteCompletion =>
    refine leadsTo_go (hwhile ?_)
    unfold State.rewriteCompletes
    split
    · exact hsup
    next hcopy => exact Sup.rewritten_eachContents hsup hcopy
  | loadCompletion =>
    refine leadsTo_go (State.eventsKept_of_record ?_ hsup)
    unfold State.loadCompletes
    split <;> exact ⟨rfl, rfl⟩
  | sensorWaitExpiry =>
    refine leadsTo_go (State.eventsKept_of_record ?_ hsup)
    split <;> exact ⟨rfl, rfl⟩
  | _ => cases hmoves

/-- Settles O14: a command of the supervisor keeps the law by its parts (`learningKept_underSupervision`), any other keeps
the unit's bounds and the record's (`exec_fluKept`, `exec_eventsKept`); a tick moves neither. -/
theorem learningBoundsKept : Obligations.LearningBoundsKept := by
  intro s t hstep hs
  obtain ⟨hflu, hsup⟩ := s.learningKept_iff.mp hs
  refine t.learningKept_iff.mpr ?_
  unfold step at hstep
  split at hstep
  next c rest _ =>
    by_cases hc : c.isSupervision = true
    · exact learningKept_underSupervision.exec (s := s.setPending rest) ⟨hflu, hsup⟩ hc t hstep
    · have hc := Bool.eq_false_of_not_eq_true hc
      exact ⟨exec_fluKept (s := s.setPending rest) c hc hflu t hstep,
        exec_eventsKept (s := s.setPending rest) c hc hflu hsup t hstep⟩
  next =>
    obtain rfl : s.tick = t := by simpa using hstep
    exact State.whileOperating_keeps (P := fun u => u.flu.Kept ∧ u.sup.EventsKept) ⟨hflu, hsup⟩ ⟨hflu, hsup⟩

end
end Sys2Proof.Machine
end

section
/-! PROOF. O41, O42: a GRANT_RELEASE and a USE_REPORT served: what one write to the grant table leaves. -/
namespace Sys2Proof.Machine

/-! ### One write to the table (R66, R102) -/

section
variable (s : State) (k : GrantKey)

@[simp] theorem State.writeGrant_besideClamps (g : Option Grant) : (s.writeGrant k g).besideClamps = s.besideClamps := by
  simp only [State.besideClamps, State.writeGrant_gre, State.mk.injEq]
  simp

/-- A write moves the table, the key's report count and the key's line alone. -/
theorem State.writeGrant_frame (g : Option Grant) :
    s.writeGrant k g = { s with
      gre := { s.gre with grants := s.gre.grants.set k g }
      flu := (s.writeGrant k g).flu
      lines := (s.writeGrant k g).lines } := by
  have hframe := State.eq_of_besideClamps (s.writeGrant_besideClamps k g)
  rw [State.writeGrant_slm, State.writeGrant_gre] at hframe
  exact hframe

variable {s k}

/-- A grant written over one of the same granted force moves the table alone. -/
theorem State.writeGrant_sameForce {g : Grant} (h : s.grantedForce k = some g.granted) :
    s.writeGrant k (some g) = s.setGre { s.gre with grants := s.gre.grants.set k (some g) } := by
  unfold State.writeGrant
  simp [h]

end

/-! ### Requests in service (R81, R91) -/

theorem State.operating_of_running {s : State} (h : s.running = true) : s.operating = true := by
  simp only [State.running, beq_iff_eq] at h
  simp only [State.operating, h]

section
variable {s : State} {h : Holder} {r : Request} {k : GrantKey}

/-- R91: the checks pass a request in RUNNING that names a key, its other fields being good. -/
theorem State.grantRefusal_key (hrun : s.running = true) : s.grantRefusal (.key k) true = none := by
  simp [State.grantRefusal, hrun]

/-- R91: the checks refuse a request outside RUNNING, or one that names no key of its holder. -/
theorem State.grantRefusal_isSome {named : NamedKey} (hbad : s.running = false ∨ named = .bad ∨ named = .foreign) :
    (s.grantRefusal named true).isSome = true := by
  unfold State.grantRefusal
  by_cases hrun : s.running = true
  · rcases hbad.resolve_left (by simp [hrun]) with rfl | rfl <;> simp [hrun]
  · simp [hrun]

theorem exec_useReport (hop : s.operating = true) (hin : s.inService .useReport = some (h, r)) :
    exec .useReport s = .next ((s.useReported h r).finishSilently h.port) := by
  simp only [exec, execUseReport, hin, State.whileOperating_of_operating hop, go]

/-- R97: a report for a key. -/
theorem State.useReported_key (hrun : s.running = true) (hkey : r.named h = .key k) :
    s.useReported h r = s.takeReport k r.force := by
  simp only [State.useReported, hkey, State.grantRefusal_key hrun]

/-- R97: a report that the checks refuse is discarded. -/
theorem State.useReported_refused (hbad : s.running = false ∨ r.named h = .bad ∨ r.named h = .foreign) :
    s.useReported h r = s := by
  obtain ⟨code, hcode⟩ := Option.isSome_iff_exists.mp (State.grantRefusal_isSome hbad)
  simp only [State.useReported, hcode]

/-- R97: a report for a key without a grant is discarded. -/
theorem State.takeReport_none (hnone : s.grant k = none) (n : Nat) : s.takeReport k n = s := by
  simp only [State.takeReport, hnone]

/-- R66, R97: a report for a grant: its applied force and OVERUSE, and the key's report fresh. -/
theorem State.takeReport_some {g : Grant} (hg : s.grant k = some g) (n : Nat) :
    s.takeReport k n = (s.setGre { s.gre with grants := s.gre.grants.set k (some (g.reported n)) }).setFlu
      { s.flu with reports := s.flu.reports.set k 25 } := by
  have hforce : s.grantedForce k = some (g.reported n).granted := by simp [State.grantedForce, hg, Grant.reported]
  simp only [State.takeReport, hg, State.writeGrant_sameForce hforce]

/-- R81, R96: an accepted release removes the grant, frees the engine and is answered. -/
theorem exec_grantRelease {g : Grant} (hrun : s.running = true) (hin : s.inService .grantRelease = some (h, r))
    (hkey : r.named h = .key k) (hg : s.grant k = some g) :
    exec .grantRelease s = .next ((s.writeGrant k none).finishService h.port ⟨.grantRelease, .ok, []⟩) := by
  simp only [exec, execGrantRelease, hin, State.whileOperating_of_operating (State.operating_of_running hrun), go,
    State.serveGrantRelease, hkey, State.grantRefusal_key hrun, hg]

end

/-- Settles O42: a report taken is `State.takeReport_some`'s; any other leaves the state, and the port goes on. -/
theorem useReported : Obligations.UseReported := by
  refine ⟨fun s h r k g hrun hin hkey hg => ?_, fun s h r hop hin hdiscarded => ?_⟩
  · rw [exec_useReport (State.operating_of_running hrun) hin, State.useReported_key hrun hkey, State.takeReport_some hg]
    rfl
  · have hstays : s.useReported h r = s := by
      by_cases hbad : s.running = false ∨ r.named h = .bad ∨ r.named h = .foreign
      · exact State.useReported_refused hbad
      · simp only [not_or, Bool.not_eq_false] at hbad
        obtain ⟨hrun, hnotBad, hnotForeign⟩ := hbad
        obtain ⟨k, hkey, hnone⟩ :=
          ((hdiscarded.resolve_left (by simp [hrun])).resolve_left hnotBad).resolve_left hnotForeign
        rw [State.useReported_key hrun hkey, State.takeReport_none hnone]
    rw [exec_useReport hop hin, hstays]
    rfl

/-- Settles O41: the removal is one write to the table (`State.writeGrant_frame`), which reaches the key's line. -/
theorem grantReleased : Obligations.GrantReleased := by
  intro s h r k g hrun hin hkey hg
  refine ⟨_, exec_grantRelease hrun hin hkey hg, ?_, fun j hj => ?_, ?_, ?_, fun l => ?_, ?_⟩
  · exact (s.writeGrant_grant k k none).trans (if_pos rfl)
  · exact (s.writeGrant_grant k j none).trans (if_neg hj)
  · rw [State.finishService, State.answer_port, if_pos rfl]
    exact congrArg (fun x : PerPort Port => (x.get h.port).answer _) (s.writeGrant_ports k none)
  · exact s.writeGrant_flu k none
  · refine (s.writeGrant_line k none l).trans ?_
    simp [State.grantedForce, hg]
  · rw [s.writeGrant_frame k none]; rfl

end Sys2Proof.Machine
end

section
/-! PROOF. O34: a re-evaluation's completion, step by step: the countdown, the re-sharing, the STATUS frames, the record's
copy. -/
namespace Sys2Proof.Machine

/-! ### The caps (R88) -/

/-- R78, R88: the clamp cap. -/
theorem Monitor.clampCap_eq (m : Monitor) (k : GrantKey) (v : Nat) :
    m.clampCap k v = match m.state, m.cap.get k with
      | .hard, _ => 0
      | .soft, some cap => min v cap
      | _, _ => v := by
  unfold Monitor.clampCap
  cases m.state <;> cases m.cap.get k <;> rfl

theorem GrantKey.paced_iff (g : Grant) (k : GrantKey) :
    g.paced k = true ↔ k.direction = .drive ∨ g.recovering = true := by
  simp [Grant.paced]

/-- The ramp of the profile in force, clamped (R78). -/
theorem State.ramp_eq (s : State) : s.ramp = max 1 (min 20000 (s.params.s1.get s.profile).ramp) :=
  clampNat_eq (by decide) _

/-- R88: the three caps, in their order. -/
theorem State.capped_eq (s : State) (k : GrantKey) (g : Grant) (v : Nat) :
    s.capped k g v
      = if k.direction = .drive ∨ g.recovering = true then
          min (g.confirmation.frozenCap ((s.monitor k.monitor).clampCap k v))
            (g.rampBase + max 1 (min 20000 (s.params.s1.get s.profile).ramp))
        else g.confirmation.frozenCap ((s.monitor k.monitor).clampCap k v) := by
  simp only [State.capped, Grant.rampCap, GrantKey.paced_iff, State.ramp_eq]

/-! ### The countdown step (R66, R83, R102) -/

/-- The countdown of a key's grant reaches 0 at this re-evaluation. -/
def State.expires (s : State) (k : GrantKey) : Bool := (s.grant k).any fun g => g.countDown.isNone

section
variable {s : State} {k : GrantKey}

theorem State.expires_iff : s.expires k = true ↔ ∃ g, s.grant k = some g ∧ g.countDown = none := by
  simp [State.expires, Option.any_eq_true]

theorem Grant.countDown_last {g : Grant} {n frozen : Nat} {cause : DoubtCause}
    (h : g.confirmation = .unconfirmed n cause frozen) (hn : n ≤ 1) : g.countDown = none := by
  simp only [Grant.countDown, h, hn, if_true]

/-- A doubt counted down by one (R83). -/
def Confirmation.counted : Confirmation → Confirmation
  | .confirmed => .confirmed
  | .unconfirmed n cause frozen => .unconfirmed (n - 1) cause frozen

/-- R88: the countdown leaves the frozen ceiling. -/
@[simp] theorem Confirmation.counted_frozenCap (c : Confirmation) (v : Nat) : c.counted.frozenCap v = c.frozenCap v := by
  cases c <;> rfl

/-- R83: a grant that is CONFIRMED, or whose countdown is not at its end, stays. -/
theorem Grant.countDown_stays {g : Grant}
    (h : ∀ n cause frozen, g.confirmation = .unconfirmed n cause frozen → 1 < n) :
    g.countDown = some { g with confirmation := g.confirmation.counted } := by
  obtain ⟨_, _, _, _, _, _, _, confirmation⟩ := g
  cases confirmation with
  | confirmed => rfl
  | unconfirmed n cause frozen => exact if_neg (Nat.not_le.mpr (h n cause frozen rfl))

/-- A grant that the countdown leaves keeps its forces. -/
theorem Grant.countDown_granted {g c : Grant} (h : g.countDown = some c) : c.granted = g.granted := by
  unfold Grant.countDown at h
  split at h
  · cases h; rfl
  · split at h
    · cases h
    · cases h; rfl

/-- One key's countdown: its grant expires and leaves, with its report count and its line's force, or no force moves. -/
theorem State.countDownKey_expired (h : s.expires k = true) : s.countDownKey k = s.writeGrant k none := by
  obtain ⟨g, hg, hnone⟩ := State.expires_iff.mp h
  simp only [State.countDownKey, hg, hnone]

theorem State.countDownKey_stays (h : s.expires k = false) :
    s.countDownKey k
      = s.setGre { s.gre with grants := s.gre.grants.set k ((s.grant k).bind Grant.countDown) } := by
  cases hg : s.grant k with
  | none =>
    have hself : s.gre.grants.set k none = s.gre.grants :=
      PerKey.ext_get fun j => by rw [PerKey.get_set]; split <;> simp_all [State.grant]
    simp only [State.countDownKey, hg, Option.bind_none, hself]
    rfl
  | some g =>
    cases hc : g.countDown with
    | none => exact absurd (State.expires_iff.mpr ⟨g, hg, hc⟩) (by simp [h])
    | some c =>
      have hforce : s.grantedForce k = some c.granted := by
        simp [State.grantedForce, hg, Grant.countDown_granted hc]
      simp only [State.countDownKey, hg, Option.bind_some, hc, State.writeGrant_sameForce hforce]

theorem State.countDownKey_expires (j : GrantKey) (hj : j ≠ k) : (s.countDownKey k).expires j = s.expires j := by
  simp only [State.expires, State.countDownKey_grant, hj, if_false]

theorem State.countDownKey_flu : (s.countDownKey k).flu
    = { s.flu with reports := if s.expires k = true then s.flu.reports.set k 0 else s.flu.reports } := by
  cases h : s.expires k with
  | true => rw [State.countDownKey_expired h]; exact State.writeGrant_flu _ _ _
  | false => rw [State.countDownKey_stays h]; rfl

theorem State.countDownKey_line (l : LineName) : (s.countDownKey k).line l
    = if s.expires k = true ∧ k.line = some l then (s.line l).deliver none else s.line l := by
  cases h : s.expires k with
  | true =>
    obtain ⟨g, hg, -⟩ := State.expires_iff.mp h
    rw [State.countDownKey_expired h, State.writeGrant_line]
    simp [State.grantedForce, hg]
  | false =>
    rw [State.countDownKey_stays h]
    simp only [Bool.false_eq_true, false_and, if_false]
    rfl

@[simp] theorem State.countDownKey_besideClamps : (s.countDownKey k).besideClamps = s.besideClamps := by
  unfold State.countDownKey
  split <;> simp

end

section
variable (s : State)

@[simp] theorem State.countDown_besideClamps : s.countDown.besideClamps = s.besideClamps := by
  simp [State.countDown]

/-- R66: the countdown step zeroes the report counts of the keys whose grants it removes. -/
theorem State.countDown_flu : s.countDown.flu = { s.flu with reports := s.countDown.flu.reports } := by
  simp only [State.countDown, State.countDownKey_flu]

theorem State.countDown_reports {k : GrantKey} (h : s.expires k = true) : s.countDown.flu.reports.get k = 0 := by
  have hkey (t : State) (j : GrantKey) : (t.countDownKey j).flu.reports.get k
      = if t.expires j = true ∧ j = k then 0 else t.flu.reports.get k := by
    rw [State.countDownKey_flu]
    cases t.expires j <;> simp [PerKey.get_set, eq_comm]
  unfold State.countDown
  cases k <;> simp [hkey, State.countDownKey_expires, h]

theorem State.countDown_line (l : LineName) :
    s.countDown.line l = if s.expires (keyOf l) = true then (s.line l).deliver none else s.line l := by
  unfold State.countDown
  cases l <;> simp [State.countDownKey_line, State.countDownKey_expires, keyOf, GrantKey.line] <;> rfl


/-! ### The re-sharing and what follows it (R83 to R90) -/

@[simp] theorem State.changeGrant_besideClamps (k : GrantKey) (f : Grant → Grant) :
    (s.changeGrant k f).besideClamps = s.besideClamps := by
  unfold State.changeGrant
  split <;> simp

@[simp] theorem State.changeGrants_besideClamps (ks : List GrantKey) (f : GrantKey → Grant → Grant) :
    (s.changeGrants ks f).besideClamps = s.besideClamps := by
  induction ks generalizing s with
  | nil => rfl
  | cons k ks ih => rw [State.changeGrants_cons, ih, State.changeGrant_besideClamps]

@[simp] theorem State.reshare_besideClamps : s.reshare.besideClamps = s.besideClamps :=
  s.changeGrants_besideClamps _ _

theorem GrantKey.line_eq_some_iff (k : GrantKey) (l : LineName) : k.line = some l ↔ k = keyOf l := by
  cases k <;> cases l <;> decide

/-- Grants changed reach no line whose key holds none. -/
theorem State.changeGrants_line_none {s : State} {l : LineName} (h : s.grant (keyOf l) = none) (ks : List GrantKey)
    (f : GrantKey → Grant → Grant) : (s.changeGrants ks f).line l = s.line l := by
  induction ks generalizing s with
  | nil => rfl
  | cons k ks ih =>
    have hgrant : (s.changeGrant k (f k)).grant (keyOf l) = none := by
      rw [State.changeGrant_grant]
      split
      next hk => rw [← hk, h]; rfl
      next => exact h
    rw [State.changeGrants_cons, ih hgrant]
    unfold State.changeGrant
    split
    · rfl
    next g hg =>
      rw [State.writeGrant_line, if_neg]
      rintro ⟨-, hl⟩
      rw [(GrantKey.line_eq_some_iff k l).mp hl, h] at hg
      cases hg

/-- The grants settled: counted down, shared and capped (R83 to R89). -/
def State.settledGrants (s : State) : State := s.countDown.reshare

/-- Counting down and re-sharing move the table, report counts and lines alone. -/
theorem State.settledGrants_frame : s.settledGrants = { s with
    gre := { s.gre with grants := s.settledGrants.gre.grants }
    flu := { s.flu with reports := s.settledGrants.flu.reports }
    lines := s.settledGrants.lines } := by
  have hframe := State.eq_of_besideClamps (s := s) (t := s.settledGrants) (by simp [State.settledGrants])
  have hslm : s.settledGrants.slm = s.slm := by simp [State.settledGrants]
  have hflu : s.settledGrants.flu = { s.flu with reports := s.settledGrants.flu.reports } := by
    unfold State.settledGrants
    rw [State.reshare_flu]
    exact s.countDown_flu
  rw [hslm] at hframe
  exact hframe.trans (by rw [← hflu])

/-- R81, R83 to R90: the re-evaluation in service: the grants settled, the engine free, the STATUS frames queued and the
rewrite started. -/
theorem State.completeReevaluation_eq {s : State} (hbusy : s.gre.engine = .reevaluation) :
    s.completeReevaluation = s.settledGrants.freeEngine.queueStatus.startRewrite := if_pos hbusy

theorem exec_reevaluationCompletion {s : State} (hop : s.operating = true) (hbusy : s.gre.engine = .reevaluation) :
    exec .reevaluationCompletion s = .next s.settledGrants.freeEngine.queueStatus.startRewrite := by
  rw [← State.completeReevaluation_eq hbusy]
  simp only [exec, execReevaluationCompletion, State.whileOperating_of_operating hop, go]

/-- The row of a countdown's end is the completion it falls in (log 2). -/
theorem exec_grantCountdownExpiry {s : State} {k : GrantKey} {g : Grant} (hop : s.operating = true)
    (hbusy : s.gre.engine = .reevaluation) (hg : s.grant k = some g) (hgone : s.settledGrants.grant k = none) :
    exec (.grantCountdownExpiry k) s = .next s.settledGrants.freeEngine.queueStatus.startRewrite := by
  rw [← State.completeReevaluation_eq hbusy]
  have hgone : s.completeReevaluation.grant k = none := by rw [State.completeReevaluation_eq hbusy]; exact hgone
  simp only [exec, execGrantCountdownExpiry, State.whileOperating_of_operating hop, hg, hgone]
  rfl

theorem State.queueStatus_port (p : PortName) : s.queueStatus.port p = (s.port p).placeStatus (s.statusPayload p) := by
  cases p <;> rfl

/-- R90: queueing a STATUS frame and starting the rewrite move none of the values the frame carries. -/
theorem State.statusPayload_completed (p : PortName) :
    s.queueStatus.startRewrite.statusPayload p = s.statusPayload p := by
  obtain ⟨-, -, -, -, hbad, hdiscards, -⟩ := Port.advance_spec { s.port p with slot := some (s.statusPayload p) }
  have hport : s.queueStatus.startRewrite.port p = (s.port p).placeStatus (s.statusPayload p) := s.queueStatus_port p
  have hbad' : (s.queueStatus.startRewrite.port p).badFrames = (s.port p).badFrames := by rw [hport]; exact hbad
  have hdiscards' : (s.queueStatus.startRewrite.port p).discards = (s.port p).discards := by rw [hport]; exact hdiscards
  unfold State.statusPayload
  rw [hbad', hdiscards']
  rfl

/-- R83, R88, R89: a grant the countdown leaves, its forces, flags and state settled. -/
theorem State.settledGrants_grant {s : State} {k : GrantKey} {g c : Grant} (hg : s.grant k = some g)
    (hc : g.countDown = some c) : s.settledGrants.grant k = some (s.countDown.reshared k c) := by
  rw [State.settledGrants, State.reshare_grant, State.countDown_grant, hg, Option.bind_some, hc, Option.map_some]

/-- R88: the countdown moves nothing that the caps read. -/
theorem State.countDown_capped (k : GrantKey) (g : Grant) (v : Nat) : s.countDown.capped k g v = s.capped k g v := by
  simp [State.capped, State.ramp, State.params, State.profile, State.monitor]

theorem State.countDown_reshared (k : GrantKey) (g : Grant) :
    s.countDown.reshared k g
      = { g with
          granted := s.capped k g (s.countDown.share k)
          rampBase := s.capped k g (s.countDown.share k)
          recovering := g.recovering && s.capped k g (s.countDown.share k) != s.countDown.share k
          state := deriveState (s.monitor k.monitor) k g.requested (s.capped k g (s.countDown.share k)) } := by
  rw [State.reshared, State.countDown_capped]
  simp only [State.monitor, State.countDown_slm]
  rfl

theorem State.settledGrants_none {s : State} {k : GrantKey} (h : (s.grant k).bind Grant.countDown = none) :
    s.settledGrants.grant k = none := by
  rw [State.settledGrants, State.reshare_grant, State.countDown_grant, h, Option.map_none]

/-- R83, R84: a grant that expires requests nothing of the shares. -/
theorem State.requestedForce_countDown (k : GrantKey) :
    s.countDown.requestedForce k = match s.grant k with
      | none => 0
      | some g => match g.confirmation with
        | .unconfirmed n _ _ => if n ≤ 1 then 0 else g.requested
        | .confirmed => g.requested := by
  rw [State.requestedForce, State.countDown_grant]
  cases hg : s.grant k with
  | none => rfl
  | some g =>
    rw [Option.bind_some]
    cases hconf : g.confirmation with
    | confirmed =>
      rw [Grant.countDown_stays (by simp [hconf])]
      simp [hconf]
    | unconfirmed n cause frozen =>
      by_cases hn : n ≤ 1
      · simp [Grant.countDown_last hconf hn, hconf, hn]
      · rw [Grant.countDown_stays (by simpa [hconf] using hn)]
        simp [hconf, hn]

/-- R83, R102: a grant whose countdown reaches 0 is gone, its report count 0 and its line without a grant. -/
theorem State.settledGrants_expired {s : State} {k : GrantKey} (h : s.expires k = true) :
    s.settledGrants.grant k = none ∧ s.settledGrants.flu.reports.get k = 0
      ∧ ∀ l, k.line = some l → (s.settledGrants.line l).carried = none := by
  obtain ⟨g, hg, hnone⟩ := State.expires_iff.mp h
  have hgone : s.countDown.grant k = none := by rw [State.countDown_grant, hg, Option.bind_some, hnone]
  refine ⟨State.settledGrants_none (by rw [hg]; exact hnone), ?_, fun l hl => ?_⟩
  · rw [State.settledGrants, State.reshare_flu]
    exact s.countDown_reports h
  · obtain rfl := (GrantKey.line_eq_some_iff k l).mp hl
    rw [State.settledGrants, State.reshare, State.changeGrants_line_none hgone, State.countDown_line, if_pos h]
    exact (CeilingLine.deliver_spec _ _).1

/-- R88, R89: a grant that stays: its force within the caps, RECOVERING until the share is reached, its state derived. -/
theorem State.settledGrants_stays {s : State} {k : GrantKey} {g : Grant} {clamp frozen force : Nat}
    (hg : s.grant k = some g)
    (hlive : ∀ n cause ceiling, g.confirmation = .unconfirmed n cause ceiling → 1 < n)
    (hclamp : clamp = (s.monitor k.monitor).clampCap k (s.countDown.share k))
    (hfrozen : frozen = g.confirmation.frozenCap clamp)
    (hforce : force = (if k.direction = .drive ∨ g.recovering = true then
        min frozen (g.rampBase + max 1 (min 20000 (s.params.s1.get s.profile).ramp))
      else frozen)) :
    s.settledGrants.grant k = some { g with
      granted := force, rampBase := force
      recovering := g.recovering && force != s.countDown.share k
      state := deriveState (s.monitor k.monitor) k g.requested force
      confirmation := g.confirmation.counted } := by
  have hcapped : s.capped k { g with confirmation := g.confirmation.counted } (s.countDown.share k) = force := by
    rw [State.capped_eq, Confirmation.counted_frozenCap, hforce, hfrozen, hclamp]
  rw [State.settledGrants_grant hg (Grant.countDown_stays hlive), State.countDown_reshared, hcapped]

/-- R76: the four grants of a copy, key by key. -/
theorem State.recordCopy_grants (k : GrantKey) : s.recordCopy.grants.get k = (s.grant k).map Grant.retained := by
  cases k <;> rfl

end

/-- Settles O34: the grants by `State.settledGrants_stays`, the frames by `State.statusPayload_reports`, what expires by
`State.settledGrants_expired`, and everything else by the frame of the settled grants. -/
theorem reevaluationCompletes : Obligations.ReevaluationCompletes := by
  refine ⟨fun s hop hbusy => ?_, fun s k g cause frozen hop hbusy hg hconf => ?_⟩
  · have hexec := exec_reevaluationCompletion hop hbusy
    have habsent (k : GrantKey) (hk : s.grant k = none) : s.settledGrants.grant k = none :=
      State.settledGrants_none (by rw [hk, Option.bind_none])
    have hexpired (k : GrantKey) (g : Grant) (n : Nat) (cause : DoubtCause) (ceiling : Nat) (hg : s.grant k = some g)
        (hconf : g.confirmation = .unconfirmed n cause ceiling) (hn : n ≤ 1) : s.settledGrants.grant k = none :=
      State.settledGrants_none (by rw [hg, Option.bind_some, Grant.countDown_last hconf hn])
    have hstays := fun k g clamp frozen force => State.settledGrants_stays (s := s) (k := k) (g := g) (clamp := clamp)
      (frozen := frozen) (force := force)
    have hframe := s.settledGrants_frame
    generalize s.settledGrants = u at hexec habsent hexpired hstays hframe
    have hpayload (p : PortName) : u.freeEngine.queueStatus.startRewrite.port p
        = (s.port p).placeStatus (u.freeEngine.queueStatus.startRewrite.statusPayload p) := by
      rw [State.statusPayload_completed]
      refine (u.freeEngine.queueStatus_port p).trans ?_
      rw [hframe]
      rfl
    refine ⟨_, u.freeEngine.queueStatus.recordCopy, hexec, s.countDown_gre, s.requestedForce_countDown, habsent,
      hexpired, fun k g clamp frozen force hg hlive hclamp hfrozen hforce => ?_, ?_,
      fun p => ⟨_, hpayload p, State.statusPayload_reports _ p⟩, hpayload, ?_, fun q hq => ?_,
      ?_, ?_, ?_, fun k => u.freeEngine.queueStatus.recordCopy_grants k, fun m => ?_, ?_⟩
    · refine (hstays k g clamp frozen force hg hlive (hclamp.trans (Monitor.clampCap_eq _ _ _).symm)
        (hfrozen.trans (by cases g.confirmation <;> rfl)) hforce).trans ?_
      cases g.confirmation <;> rfl
    · rw [hframe]; rfl
    · rw [hframe]; rfl
    · have hpublished : u.freeEngine.queueStatus.leu.published = some q := by rw [hframe]; exact hq
      simp only [State.recordCopy, hpublished]
      exact ⟨rfl, rfl, rfl⟩
    · rw [hframe]; rfl
    · rw [hframe]; rfl
    · rw [hframe]; rfl
    · rw [hframe]; exact PerMonitor.get_map _ _ _
    · rw [hframe]; rfl
  · have hexpires : s.expires k = true := State.expires_iff.mpr ⟨g, hg, Grant.countDown_last hconf le_rfl⟩
    obtain ⟨hgone, hreports, hline⟩ := State.settledGrants_expired hexpires
    exact ⟨_, exec_grantCountdownExpiry hop hbusy hg hgone, exec_reevaluationCompletion hop hbusy, hgone, hreports, hline⟩

end Sys2Proof.Machine
end

section
/-! PROOF. O28: the immediate path: what a trigger leaves at the friction learning unit, and a monitor's turn at a capture. -/
namespace Sys2Proof.Machine

/-! ### A trigger taken (R67, R68, R98) -/

section
variable {s : State} {m : MonitorName} {force : Nat} {target : Word16}

theorem State.budgetOf_eq_none (h : ∀ q, s.gbu.publication = some q → q.estimate.epoch ≠ target) :
    s.budgetOf target = none := by
  rw [State.budgetOf, Option.filter_eq_none_iff]
  exact fun q hq => by simpa using h q hq

theorem State.takeTrigger_dropped (h : force = 0 ∨ 6 ≤ s.flu.triggers.length) : s.takeTrigger m force target = s :=
  if_pos h

theorem State.takeTrigger_waits (hforce : 0 < force) (hroom : s.flu.triggers.length < 6)
    (hnone : ∀ q, s.gbu.publication = some q → q.estimate.epoch ≠ target) :
    s.takeTrigger m force target
      = s.setFlu { s.flu with triggers := s.flu.triggers ++ [⟨m, force, target⟩] } := by
  rw [State.takeTrigger, if_neg (by omega), State.budgetOf_eq_none hnone]

theorem State.takeTrigger_completes {q : BudgetPublication} (hforce : 0 < force) (hroom : s.flu.triggers.length < 6)
    (hq : s.gbu.publication = some q) (htarget : q.estimate.epoch = target) :
    s.takeTrigger m force target
      = s.setFlu { s.flu with events := match slipEvent q m force with
          | some e => offerEvent s.params.recoverCycles s.flu.events e
          | none => s.flu.events } := by
  have hbudget : s.budgetOf target = some q := by simp [State.budgetOf, hq, htarget]
  rw [State.takeTrigger, if_neg (by omega), hbudget]
  refine congrArg (fun events => s.setFlu { s.flu with events := events }) ?_
  unfold completeTrigger
  cases slipEvent q m force <;> rfl

variable {kind : TriggerKind}

/-- A trigger into HARD hands the friction learning unit the force of its grants before the cut (R67, R117). -/
theorem State.triggerHard_flu_eq :
    (s.triggerHard m kind target).flu = (s.takeTrigger m (s.triggerForce m) target).flu := by
  have hgbu : (s.clampGrants m ((s.monitor m).hardRecord kind) fun _ => 0).gbu = s.gbu := State.clampGrants_gbu _ _ _ _
  unfold State.triggerHard State.takeTrigger State.budgetOf
  rw [State.clampGrants_flu, hgbu]
  split_ifs
  · exact State.clampGrants_flu _ _ _ _
  · cases s.gbu.publication.filter _ with
    | none => rfl
    | some q => simp [State.params]

/-- A trigger into SOFT hands it the force of its grants before the cut too. -/
theorem State.triggerSoft_flu_eq :
    (s.triggerSoft m target).flu = (s.takeTrigger m (s.triggerForce m) target).flu := by
  have hgbu : (s.clampGrants m (s.softRecord m) fun k => ((s.softCaps m).get k).getD 0).gbu = s.gbu :=
    State.clampGrants_gbu _ _ _ _
  unfold State.triggerSoft State.takeTrigger State.budgetOf
  rw [State.clampGrants_flu, hgbu]
  split_ifs
  · exact State.clampGrants_flu _ _ _ _
  · cases s.gbu.publication.filter _ with
    | none => rfl
    | some q => simp [State.params]

/-- R67, R68: a trigger of some force that finds a place waits for the budgets of its target epoch. -/
theorem State.mem_takeTrigger (hforce : force ≠ 0) (hroom : s.flu.triggers.length < 6)
    (hnone : ∀ q, s.gbu.publication = some q → q.estimate.epoch ≠ target) :
    ⟨m, force, target⟩ ∈ (s.takeTrigger m force target).flu.triggers := by
  rw [State.takeTrigger_waits (Nat.pos_of_ne_zero hforce) hroom hnone]
  exact List.mem_append_right _ List.mem_cons_self

/-- R98: under HARD each affected grant holds nothing. -/
theorem State.triggerHard_grantedForce {k : GrantKey} (hk : k ∈ m.keys) :
    (s.triggerHard m kind target).grantedForce k = (s.grantedForce k).map fun _ => 0 := by
  rw [State.grantedForce, State.triggerHard_grant, if_pos ((mem_monitorKeys m k).mp hk), State.grantedForce,
    Option.map_map, Option.map_map]
  exact congrArg (Option.map · (s.grant k)) (funext fun g => Nat.min_zero g.granted)

theorem State.triggerHard_monitor : (s.triggerHard m kind target).monitor m = (s.monitor m).hardRecord kind := by
  rw [State.monitor, State.triggerHard_slm, PerMonitor.get_set_same]

theorem State.triggerHard_move : MonitorMove m s (s.triggerHard m kind target) := .hard _ _

end

/-! ### A lock window's expiry (R120) -/

theorem exec_lockWindowExpiry {s : State} {m : MonitorName} {d : Nat} (hop : s.operating = true)
    (hd : (s.monitor m).window = some d) :
    exec (.lockWindowExpiry m) s = .next (if (s.monitor m).watching = true then
        (s.setMonitor m { s.monitor m with window := none }).triggerHard m .immediate (s.leu.epoch + 1)
      else s.setMonitor m { s.monitor m with window := none }) := by
  simp only [exec, execLockWindowExpiry, State.whileOperating_of_operating hop, State.lockWindowExpires, hd, go]
  rfl

/-! ### A capture at one monitor (R119, R120) -/

section
variable {s : State} {m : MonitorName} {edge : Nat} {period : Option Nat} {seen : WheelState}

theorem Monitor.windowAfter_eq (x : Monitor) (m : MonitorName) (edge : Nat) :
    x.windowAfter m edge = if m = .rearSpin then x.window else x.bound.map fun b => edge + b := by
  cases m <;> rfl

/-- R107: a capture's period lies beyond a bound where there are both, on the monitor's side. -/
theorem Monitor.periodBeyond_iff (x : Monitor) (m : MonitorName) (w : WheelInput) (edge : Nat) :
    x.periodBeyond m (w.handedPeriod edge) = true ↔ ∃ last b, w.lastEdge = some last ∧ 20 ≤ edge - last
      ∧ x.bound = some b ∧ if m = .rearSpin then edge - last < b else b < edge - last := by
  unfold WheelInput.handedPeriod WheelInput.periodAt
  cases hlast : w.lastEdge with
  | none => cases m <;> simp [Monitor.periodBeyond]
  | some last =>
    by_cases hp : 20 ≤ edge - last
    · cases hb : x.bound <;> cases m <;> simp [Monitor.periodBeyond, hb, hp, Option.filter]
    · cases m <;> simp [Monitor.periodBeyond, hp, Option.filter]

/-- R111, R119, R120: a capture on an INVALID wheel stops the window and takes a watching monitor to IDLE; one in SOFT ends
its clamp. -/
theorem State.monitorCapture_invalid :
    (s.monitorCapture edge period .invalid m).monitor m
        = (if (s.monitor m).watching = true then
            { (s.monitor m).idleRecord with wheelSeen := .invalid, window := none }
          else { s.monitor m with wheelSeen := .invalid, window := none })
      ∧ ∀ k, k.monitor = m → (s.monitorCapture edge period .invalid m).grant k
          = if (s.monitor m).state = .soft then
              (s.grant k).map fun g => { g with recovering := true }.rederive
                ((s.monitorCapture edge period .invalid m).monitor m) k
            else s.grant k := by
  obtain ⟨-, -, hrecord, hgrants⟩ := s.monitorCapture_quiet edge period .invalid m (.inl rfl)
  exact ⟨hrecord, fun k hk => by simpa only [true_and] using hgrants k hk⟩

/-- R119, R120: a capture on a VALID wheel that triggers nothing. -/
theorem State.monitorCapture_rests
    (h : (s.monitor m).watching = false ∨ (s.monitor m).periodBeyond m period = false) :
    (s.monitorCapture edge period .valid m).monitor m
        = { s.monitor m with wheelSeen := .valid, window := (s.monitor m).windowAfter m edge }
      ∧ ∀ k, k.monitor = m → (s.monitorCapture edge period .valid m).grant k = s.grant k := by
  obtain ⟨-, -, hrecord, hgrants⟩ := s.monitorCapture_quiet edge period .valid m (.inr h)
  exact ⟨hrecord, fun k hk => (hgrants k hk).trans (if_neg nofun)⟩

/-- R119: a period beyond the bound of a watching monitor. -/
theorem State.monitorCapture_triggers (hwatch : (s.monitor m).watching = true)
    (hbeyond : (s.monitor m).periodBeyond m period = true) :
    s.monitorCapture edge period .valid m
      = (s.setMonitor m { s.monitor m with
          wheelSeen := .valid, window := (s.monitor m).windowAfter m edge }).triggerHard m .immediate s.nextEpoch := by
  simp only [State.monitorCapture, hwatch, hbeyond, Bool.and_self, if_true]

/-- R119, R120: whatever a capture triggers, the monitor notes the wheel's state and sets its window. -/
theorem State.monitorCapture_notes :
    ((s.monitorCapture edge period seen m).monitor m).wheelSeen = seen
      ∧ ((s.monitorCapture edge period seen m).monitor m).window
          = if seen = .valid then (s.monitor m).windowAfter m edge else none := by
  cases seen with
  | invalid =>
    rw [State.monitorCapture_invalid.1]
    split <;> exact ⟨rfl, rfl⟩
  | valid =>
    by_cases hrests : (s.monitor m).watching = false ∨ (s.monitor m).periodBeyond m period = false
    · rw [(State.monitorCapture_rests hrests).1]
      exact ⟨rfl, rfl⟩
    · simp only [not_or, Bool.not_eq_false] at hrests
      rw [State.monitorCapture_triggers hrests.1 hrests.2, State.triggerHard_monitor, State.monitor_setMonitor_same]
      exact ⟨rfl, rfl⟩

end

/-! ### A capture at the monitors of its wheel (R14, R119) -/

section
variable {s : State} (edge : Nat) (period : Option Nat) (seen : WheelState)

/-- R14: a monitor of the wheel takes its turn, at most one before it. -/
theorem State.handOnCapture_turn (s : State) (m : MonitorName) :
    ∃ u, TakesTurn (fun s m => s.monitorCapture edge period seen m) m 1 s u (s.handOnCapture m.wheel edge period seen) := by
  have hop (s : State) (m : MonitorName) := s.monitorCapture_takes m edge period seen
  cases m with
  | rearSpin =>
    have h := takesTurn hop s (m := .rearSpin) (before := []) (after := [.rearLock]) (by decide) (by decide)
    exact ⟨_, { h with waiting := h.waiting.trans (Nat.le_succ _) }⟩
  | rearLock => exact ⟨_, takesTurn hop s (before := [.rearSpin]) (after := []) (by decide) (by decide)⟩
  | frontLock =>
    have h := takesTurn hop s (m := .frontLock) (before := []) (after := []) (by decide) (by decide)
    exact ⟨_, { h with waiting := h.waiting.trans (Nat.le_succ _) }⟩

/-- R14: the monitors of the other wheel take nothing. -/
theorem State.handOnCapture_other (s : State) (w : Wheel) {j : MonitorName} (hj : j.wheel ≠ w) :
    State.SameFor j s (s.handOnCapture w edge period seen) := by
  have hop (s : State) (m : MonitorName) := s.monitorCapture_takes m edge period seen
  cases w with
  | front =>
    exact (foldl_takes_sameFor hop [.frontLock] s fun h => hj (by rw [List.mem_singleton.mp h]; rfl)).1
  | rear =>
    exact (foldl_takes_sameFor hop [.rearSpin, .rearLock] s fun h =>
      hj (by rcases List.mem_pair.mp h with rfl | rfl <;> rfl)).1

/-- R119: where no monitor of the wheel triggers, the friction learning unit and the lines take nothing. -/
theorem State.handOnCapture_quiet (w : Wheel)
    (h : ∀ j : MonitorName, j.wheel = w →
      seen = .invalid ∨ (s.monitor j).watching = false ∨ (s.monitor j).periodBeyond j period = false) :
    (s.handOnCapture w edge period seen).flu = s.flu ∧ (s.handOnCapture w edge period seen).lines = s.lines := by
  cases w with
  | front =>
    obtain ⟨hflu, hlines, -⟩ := s.monitorCapture_quiet edge period seen .frontLock (h .frontLock rfl)
    exact ⟨hflu, hlines⟩
  | rear =>
    obtain ⟨hflu, hlines, -⟩ := s.monitorCapture_quiet edge period seen .rearSpin (h .rearSpin rfl)
    have hlock := (s.monitorCapture_other edge period seen .rearSpin .rearLock (by decide)).1
    obtain ⟨hflu', hlines', -⟩ :=
      (s.monitorCapture edge period seen .rearSpin).monitorCapture_quiet edge period seen .rearLock
        (by rw [hlock]; exact h .rearLock rfl)
    exact ⟨hflu'.trans hflu, hlines'.trans hlines⟩

end

theorem State.triggerForce_setMonitor (s : State) (m j : MonitorName) (x : Monitor) :
    (s.setMonitor j x).triggerForce m = s.triggerForce m := rfl

/-- R14: a monitor's turn at a capture of its wheel. -/
theorem State.captureTooth_turn (s : State) (m : MonitorName) (edge : Nat) :
    ∃ u, TakesTurn (fun v j => v.monitorCapture edge ((s.wheel m.wheel).handedPeriod edge)
        ((s.captureTooth m.wheel edge).wheel m.wheel).state j) m 1
      (s.setWheel m.wheel ((s.wheel m.wheel).capture s.params m.wheel edge)) u (s.captureTooth m.wheel edge) := by
  rw [State.captureTooth_wheel]
  exact State.handOnCapture_turn edge _ _ _ m

/-- Settles O28: a window's end is one trigger, or none; a capture is a turn of each monitor of the wheel
(`State.handOnCapture_turn`), which triggers, or rests by `State.monitorCapture_quiet`. -/
theorem immediatePath : Obligations.ImmediatePath := by
  refine ⟨fun s m d hop hd hwatch => ?_, fun s m d hop hd hwatch => ?_,
    fun s m edge last hop hvalid hlast hp hwatch hbeyond => ?_, fun s m edge beyond hop hiff => ?_⟩
  · refine ⟨_, (exec_lockWindowExpiry hop hd).trans (by rw [if_pos hwatch]), ?_, ?_, ?_, ?_, fun j hj => ?_,
      fun k hk => ?_, fun k hk => ?_, fun force hforce => ?_, ?_⟩
    · rw [State.triggerHard_monitor, State.monitor_setMonitor_same]; rfl
    · rw [State.triggerHard_monitor, State.monitor_setMonitor_same]; rfl
    · rw [State.triggerHard_monitor, State.monitor_setMonitor_same]; rfl
    · rw [State.triggerHard_monitor, State.monitor_setMonitor_same]; rfl
    · exact (State.triggerHard_move.monitor_other hj).trans (State.monitor_setMonitor_other _ _ _ _ hj)
    · exact State.triggerHard_grantedForce hk
    · exact State.triggerHard_move.grant_other fun h => hk ((mem_monitorKeys m k).mpr h)
    · obtain rfl : force = s.triggerForce m := hforce
      rw [State.triggerHard_flu_eq]
      refine ⟨fun hdropped => ?_, fun hpos hroom hnone => ?_, fun q hpos hroom hq htarget => ?_⟩
      · exact (congrArg State.flu (State.takeTrigger_dropped (s := s.setMonitor m _) hdropped)).trans rfl
      · exact congrArg State.flu (State.takeTrigger_waits (s := s.setMonitor m _) hpos hroom hnone)
      · exact congrArg State.flu (State.takeTrigger_completes (s := s.setMonitor m _) hpos hroom hq htarget)
    · exact State.eq_of_besideClamps (State.triggerHard_besideClamps _ _ _ _)
  · rw [exec_lockWindowExpiry hop hd, if_neg (by simp [hwatch])]
  · obtain ⟨u, hturn⟩ := s.captureTooth_turn m edge
    have hseen : ((s.captureTooth m.wheel edge).wheel m.wheel).state = .valid := by
      rw [State.captureTooth_wheel]
      exact (WheelInput.capture_plausible s.params m.wheel hlast hp).2.2.1 hvalid
    have hmonitor : u.monitor m = s.monitor m := hturn.finds.monitor
    have htriggers := State.monitorCapture_triggers (s := u) (m := m) (edge := edge)
      (period := (s.wheel m.wheel).handedPeriod edge) (by rw [hmonitor]; exact hwatch) (by
        rw [hmonitor, Monitor.periodBeyond_iff]
        obtain ⟨b, hb, hside⟩ := hbeyond
        exact ⟨last, b, hlast, hp, hb, hside⟩)
    have hstands := hturn.stands
    have hkeeps := hturn.keeps
    rw [hseen] at hstands hkeeps
    rw [htriggers] at hstands hkeeps
    refine ⟨_, exec_toothCapture m.wheel edge hop, ?_, ?_, fun k hk => ?_, fun force hforce hpos hroom hnone => ?_⟩
    · rw [hstands.monitor, State.triggerHard_monitor]; rfl
    · rw [hstands.monitor, State.triggerHard_monitor]; rfl
    · have hkm := (mem_monitorKeys m k).mp hk
      rw [hstands.grantedForce hkm, State.triggerHard_grantedForce hk]
      exact congrArg (Option.map fun _ => 0) (hturn.finds.grantedForce hkm)
    · refine hkeeps ?_
      have hF : force = u.triggerForce m := hforce.trans (hturn.finds.triggerForce).symm
      have hepoch : u.nextEpoch = s.leu.epoch + 1 := congrArg (fun x : Leu => x.epoch + 1) hturn.finds.leu
      have hgbu : u.gbu = s.gbu := hturn.finds.gbu
      have hwaiting : u.flu.triggers.length ≤ s.flu.triggers.length + 1 := hturn.waiting
      rw [State.triggerHard_flu_eq, State.triggerForce_setMonitor, ← hF, hepoch]
      refine State.mem_takeTrigger hpos.ne' ?_ ?_
      · show u.flu.triggers.length < 6
        omega
      · show ∀ q, u.gbu.publication = some q → _
        rw [hgbu]
        exact hnone
  · obtain ⟨u, hturn⟩ := s.captureTooth_turn m edge
    have hmonitor : u.monitor m = s.monitor m := hturn.finds.monitor
    have hgrant : ∀ k, k.monitor = m → u.grant k = s.grant k := hturn.finds.grant
    have hbeyond (j : MonitorName) (hj : j.wheel = m.wheel) : ¬beyond j ↔ (s.monitor j).watching = false
        ∨ (s.monitor j).periodBeyond j ((s.wheel m.wheel).handedPeriod edge) = false := by
      rw [hiff, not_and_or, Bool.not_eq_true, ← Monitor.periodBeyond_iff, Bool.not_eq_true]
    obtain ⟨hnotes, hwindow⟩ := u.monitorCapture_notes (m := m) (edge := edge)
      (period := (s.wheel m.wheel).handedPeriod edge) (seen := ((s.captureTooth m.wheel edge).wheel m.wheel).state)
    rw [← hturn.stands.monitor] at hnotes hwindow
    rw [hmonitor, Monitor.windowAfter_eq] at hwindow
    have hstands := hturn.stands
    refine ⟨_, exec_toothCapture m.wheel edge hop, fun j hj => ?_, fun hrests => ?_, fun hvalid hrests => ?_,
      fun hinvalid => ?_, hnotes, fun hinvalid => ?_, fun hvalid => ?_⟩
    · have hother := State.handOnCapture_other edge ((s.wheel m.wheel).handedPeriod edge)
        ((s.wheel m.wheel).capture s.params m.wheel edge).state
        (s.setWheel m.wheel ((s.wheel m.wheel).capture s.params m.wheel edge)) m.wheel hj
      exact ⟨hother.monitor, fun k hk => hother.grant k ((mem_monitorKeys j k).mp hk)⟩
    · rw [State.captureTooth_wheel] at hrests
      exact State.handOnCapture_quiet (s := s.setWheel m.wheel _) edge _ _ m.wheel fun j hj =>
        hrests.imp_right fun h => (hbeyond j hj).mp (h j hj)
    · rw [hvalid] at hstands
      obtain ⟨hrecord, hgrants⟩ := u.monitorCapture_rests (edge := edge) (by rw [hmonitor]; exact (hbeyond m rfl).mp hrests)
      refine ⟨?_, fun k hk => ?_⟩
      · rw [hstands.monitor, hrecord, hmonitor]
      · have hkm := (mem_monitorKeys m k).mp hk
        rw [hstands.grant k hkm, hgrants k hkm, hgrant k hkm]
    · rw [hinvalid] at hstands
      obtain ⟨hrecord, hgrants⟩ := u.monitorCapture_invalid (m := m) (edge := edge)
        (period := (s.wheel m.wheel).handedPeriod edge)
      refine ⟨?_, fun k hk => ?_⟩
      · rw [hstands.monitor, hrecord, hmonitor]; rfl
      · have hkm := (mem_monitorKeys m k).mp hk
        rw [hstands.grant k hkm, hgrants k hkm, hgrant k hkm, hmonitor, hstands.monitor]
        rfl
    · rw [hinvalid] at hstands hwindow
      refine ⟨hwindow, ?_⟩
      rw [hstands.monitor, State.monitorCapture_invalid.1, hmonitor]
      split <;> rfl
    · rw [hwindow, if_pos hvalid]

end Sys2Proof.Machine
end

section
/-! PROOF. O26: a monitor's turn at a publication with a slip: what it finds, how it acts, and what its act writes. -/
namespace Sys2Proof.Machine

/-! ### How a monitor acts on a slip (R112 to R116, R121) -/

section
variable {v : State} {m : MonitorName} {p : Publication} {x : Int}

/-- R113, R114: the slips that make a monitor SOFT. -/
theorem State.actOnPublication_soft (hidle : v.idleCondition m p = false) (hx : (v.monitor m).lastSlip = some x)
    (hstate : ((v.monitor m).state = .delaying ∧ (v.monitor m).count ≤ 1)
      ∨ (((v.monitor m).state = .idle ∨ (v.monitor m).state = .armed) ∧ v.params.delay v.profile = 0))
    (hsoft : v.beyondSoft m x = true) (hhard : v.beyondHard m x = false) :
    v.actOnPublication m p = v.triggerSoft m p.estimate.epoch := by
  rcases hstate with ⟨hstate, hcount⟩ | ⟨hstate | hstate, hdelay⟩
  · simp [State.actOnPublication, State.delayingPublication, hidle, hx, hstate, hcount, hsoft, hhard]
  · simp [State.actOnPublication, State.armedPublication, hidle, hx, hstate, hdelay, hsoft, hhard]
  · simp [State.actOnPublication, State.armedPublication, hidle, hx, hstate, hdelay, hsoft, hhard]

/-- R112, R113, R115, R121: the slips that make it HARD. -/
theorem State.actOnPublication_hard (hidle : v.idleCondition m p = false) (hx : (v.monitor m).lastSlip = some x)
    (hstate : (v.monitor m).state ≠ .hard)
    (hslip : v.beyondHard m x = true
      ∨ ((v.monitor m).state = .soft ∧ (v.monitor m).grace = false ∧ v.beyondSoft m x = true)) :
    v.actOnPublication m p = v.triggerHard m .syncHard p.estimate.epoch := by
  rcases hslip with hhard | ⟨hsoft, hgrace, hbeyond⟩
  · cases h : (v.monitor m).state with
    | hard => exact absurd h hstate
    | idle => simp [State.actOnPublication, State.armedPublication, hidle, hx, h, hhard]
    | armed => simp [State.actOnPublication, State.armedPublication, hidle, hx, h, hhard]
    | delaying => simp [State.actOnPublication, State.delayingPublication, hidle, hx, h, hhard]
    | soft => simp [State.actOnPublication, State.softPublication, hidle, hx, h, hhard]
    | blanking => simp [State.actOnPublication, State.blankingPublication, hidle, hx, h, hhard]
  · simp [State.actOnPublication, State.softPublication, hidle, hx, hsoft, hgrace, hbeyond]

/-- R115: SOFT without an escalation ends its hold or counts it. -/
theorem State.actOnPublication_holds (hidle : v.idleCondition m p = false) (hx : (v.monitor m).lastSlip = some x)
    (hstate : (v.monitor m).state = .soft) (hhard : v.beyondHard m x = false)
    (hslip : (v.monitor m).grace = true ∨ v.beyondSoft m x = false) :
    v.actOnPublication m p = if (v.monitor m).count ≤ 1 then v.blankAfterClamp m
      else v.setMonitor m { v.monitor m with grace := false, count := (v.monitor m).count - 1 } := by
  have hstays : (!(v.monitor m).grace && v.beyondSoft m x) = false := by
    rcases hslip with h | h <;> simp [h]
  simp only [State.actOnPublication, State.softPublication, hidle, hx, hstate, hhard, hstays, Option.getD_some,
    Bool.false_eq_true, if_false]

/-- R111 to R113, R121: without a trigger the other states move among themselves, and only the record is written. -/
theorem State.actOnPublication_writes (hidle : v.idleCondition m p = false) (hx : (v.monitor m).lastSlip = some x)
    (hhard : v.beyondHard m x = false) {state : MonitorState} {count : Nat}
    (hnext : (((v.monitor m).state = .idle ∨ (v.monitor m).state = .armed) ∧ v.beyondSoft m x = false
        ∧ state = .armed ∧ count = (v.monitor m).count)
      ∨ (((v.monitor m).state = .idle ∨ (v.monitor m).state = .armed) ∧ v.beyondSoft m x = true
        ∧ state = .delaying ∧ count = v.params.delay v.profile ∧ 0 < count)
      ∨ ((v.monitor m).state = .delaying ∧ v.beyondSoft m x = true
        ∧ state = .delaying ∧ count = (v.monitor m).count - 1 ∧ 0 < count)
      ∨ ((v.monitor m).state = .delaying ∧ v.beyondSoft m x = false ∧ state = .armed ∧ count = 0)
      ∨ ((v.monitor m).state = .blanking ∧ count = (v.monitor m).count - 1
        ∧ state = if count = 0 then .armed else .blanking)) :
    v.actOnPublication m p = v.setMonitor m { v.monitor m with state := state, count := count } := by
  rcases hnext with ⟨hstate | hstate, hsoft, rfl, rfl⟩ | ⟨hstate | hstate, hsoft, rfl, rfl, hpos⟩
    | ⟨hstate, hsoft, rfl, rfl, hpos⟩ | ⟨hstate, hsoft, rfl, rfl⟩ | ⟨hstate, rfl, rfl⟩
  · simp [State.actOnPublication, State.armedPublication, hidle, hx, hstate, hsoft, hhard]
  · simp [State.actOnPublication, State.armedPublication, hidle, hx, hstate, hsoft, hhard]
  · simp [State.actOnPublication, State.armedPublication, hidle, hx, hstate, hsoft, hhard, hpos.ne']
  · simp [State.actOnPublication, State.armedPublication, hidle, hx, hstate, hsoft, hhard, hpos.ne']
  · have hcount : ¬(v.monitor m).count ≤ 1 := by omega
    simp [State.actOnPublication, State.delayingPublication, hidle, hx, hstate, hsoft, hhard, hcount]
  · simp [State.actOnPublication, State.delayingPublication, hidle, hx, hstate, hsoft, hhard]
  · by_cases hcount : (v.monitor m).count ≤ 1
    · have hzero : (v.monitor m).count - 1 = 0 := by omega
      simp [State.actOnPublication, State.blankingPublication, hidle, hx, hstate, hhard, hcount, hzero]
    · have hzero : (v.monitor m).count - 1 ≠ 0 := by omega
      simp [State.actOnPublication, State.blankingPublication, hidle, hx, hstate, hhard, hcount, hzero]

/-! ### What the acts write -/

theorem State.triggerSoft_monitor {e : Word16} : (v.triggerSoft m e).monitor m = v.softRecord m := by
  rw [State.monitor, State.triggerSoft_slm, PerMonitor.get_set_same]

/-- R98, R114: under SOFT each affected grant is cut to its cap. -/
theorem State.triggerSoft_grantedForce {e : Word16} {k : GrantKey} (hk : k.monitor = m) :
    (v.triggerSoft m e).grantedForce k
      = (v.grantedForce k).map fun g => min g (g * v.params.softLevel v.profile / 1000) := by
  rw [State.grantedForce, State.triggerSoft_grant, if_pos hk, State.softCaps_get, if_pos hk, State.grantedForce]
  cases v.grant k <;> rfl

theorem State.endClamp_monitor (y : Monitor) : (v.endClamp m y).monitor m = y := by
  rw [State.monitor, State.endClamp_slm, PerMonitor.get_set_same]

/-- R99: a clamp end leaves the forces and makes the grants RECOVERING. -/
theorem State.endClamp_recovers (y : Monitor) {k : GrantKey} (hk : k.monitor = m) :
    (v.endClamp m y).grantedForce k = v.grantedForce k
      ∧ ∀ g, (v.endClamp m y).grant k = some g → g.recovering = true := by
  rw [State.grantedForce, State.endClamp_grant, if_pos hk, State.grantedForce]
  cases v.grant k with
  | none => exact ⟨rfl, nofun⟩
  | some g => exact ⟨rfl, fun g' hg' => Option.some.inj hg' ▸ rfl⟩

end

/-! ### What a monitor finds at its turn (R21, R51, R109) -/

/-- A publication as the monitors find it: the estimate published, its budget computation begun. -/
def State.publishing (s : State) : State :=
  (s.setLeu { s.computed with published := some s.estimated }).setGbu { s.gbu with working := true, read := none }

/-- A monitor has formed its slip and its bound at a publication (R109, R110). -/
def State.noted (s : State) (m : MonitorName) (p : Publication) : State :=
  s.setMonitor m { s.monitor m with lastSlip := s.slipAt m p, bound := s.boundAt m p }

/-- What a monitor that has formed a slip keeps of a state for its act: its record but for slip and bound, its grants,
the settings in force, its trigger's force, and room for the trigger. -/
structure State.FormsSlip (s : State) (m : MonitorName) (x : Int) (v : State) : Prop where
  monitor : v.monitor m = { s.monitor m with lastSlip := some x, bound := (v.monitor m).bound }
  grant : ∀ k, k.monitor = m → v.grant k = s.grant k
  params : v.params = s.params
  profile : v.profile = s.profile
  triggerForce : v.triggerForce m = s.triggerForce m
  publication : v.gbu.publication = s.gbu.publication
  waiting : v.flu.triggers.length ≤ s.flu.triggers.length + 2

namespace State.FormsSlip

variable {s v : State} {m : MonitorName} {p : Publication} {x : Int} (h : State.FormsSlip s m x v)
include h

theorem lastSlip : (v.monitor m).lastSlip = some x := by rw [h.monitor]
theorem state : (v.monitor m).state = (s.monitor m).state := by rw [h.monitor]
theorem count : (v.monitor m).count = (s.monitor m).count := by rw [h.monitor]
theorem grace : (v.monitor m).grace = (s.monitor m).grace := by rw [h.monitor]

theorem beyondSoft : v.beyondSoft m x = s.beyondSoft m x := by
  unfold State.beyondSoft
  rw [h.params, h.profile]

theorem beyondHard : v.beyondHard m x = s.beyondHard m x := by
  unfold State.beyondHard State.hardThreshold
  rw [h.params, h.profile]

theorem idleCondition : v.idleCondition m p = s.idleCondition m p := by
  have hseen : (v.monitor m).wheelSeen = (s.monitor m).wheelSeen := by rw [h.monitor]
  simp only [State.idleCondition, State.countsValid, hseen]

theorem grantedForce {k : GrantKey} (hk : k.monitor = m) : v.grantedForce k = s.grantedForce k := by
  rw [State.grantedForce, h.grant k hk, State.grantedForce]

/-- R67: a trigger's force waits for the budgets of the epoch. -/
theorem mem_takeTrigger {e : Word16} (hforce : s.triggerForce m ≠ 0) (hroom : s.flu.triggers.length ≤ 3)
    (hnone : ∀ q, s.gbu.publication = some q → q.estimate.epoch ≠ e) :
    ⟨m, s.triggerForce m, e⟩ ∈ (v.takeTrigger m (v.triggerForce m) e).flu.triggers := by
  rw [h.triggerForce]
  have hwaiting := h.waiting
  exact State.mem_takeTrigger hforce (by omega) (by rw [h.publication]; exact hnone)

end State.FormsSlip

/-- A monitor with a slip forms it out of a state that it cannot tell from the publication. -/
theorem State.SameFor.formsSlip {s u : State} {m : MonitorName} {x : Int} (h : State.SameFor m s.publishing u)
    (hwaiting : u.flu.triggers.length ≤ s.flu.triggers.length + 2) (hx : s.slipAt m s.estimated = some x) :
    State.FormsSlip s m x (u.noted m s.estimated) := by
  have hmonitor : u.monitor m = s.monitor m := h.monitor
  have hslip : u.slipAt m s.estimated = some x := by
    rw [State.slipAt, State.countsValid, hmonitor]
    exact hx
  refine ⟨?_, h.grant, h.params, h.profile, h.triggerForce, (congrArg Gbu.publication h.gbu :), hwaiting⟩
  rw [State.noted, State.monitor_setMonitor_same, hslip, hmonitor]

section
variable {s : State} (hop : s.operating = true) (hwork : s.leu.work ≠ .idle)
include hop hwork

/-- Log 9: a monitor takes a publication in its turn, at most two before it. -/
theorem State.estimateStep_turn (m : MonitorName) :
    ∃ u, TakesTurn (fun v j => v.monitorPublication s.estimated j) m 2 s.publishing u s.estimateStep := by
  have hstep : s.estimateStep = s.publishing.monitorsPublication s.estimated :=
    (State.whileOperating_of_operating hop).trans (State.publishEstimate_eq hwork)
  have hop' (v : State) (j : MonitorName) := v.monitorPublication_takes j s.estimated
  rw [hstep]
  cases m with
  | rearSpin =>
    have h := takesTurn hop' s.publishing (m := .rearSpin) (before := []) (after := [.rearLock, .frontLock])
      (by decide) (by decide)
    exact ⟨_, { h with waiting := h.waiting.trans (Nat.le_add_right _ 2) }⟩
  | rearLock =>
    have h := takesTurn hop' s.publishing (m := .rearLock) (before := [.rearSpin]) (after := [.frontLock])
      (by decide) (by decide)
    exact ⟨_, { h with waiting := h.waiting.trans (Nat.le_succ _) }⟩
  | frontLock =>
    exact ⟨_, takesTurn hop' s.publishing (m := .frontLock) (before := [.rearSpin, .rearLock]) (after := [])
      (by decide) (by decide)⟩

/-- A monitor with a slip acts on it out of what it finds, and its act stands at the end of the publication. -/
theorem State.estimateStep_acts {m : MonitorName} {x : Int} (hx : s.slipAt m s.estimated = some x) :
    ∃ v, State.FormsSlip s m x v ∧ State.SameFor m (v.actOnPublication m s.estimated) s.estimateStep
      ∧ (v.actOnPublication m s.estimated).flu.triggers ⊆ s.estimateStep.flu.triggers := by
  obtain ⟨u, hturn⟩ := State.estimateStep_turn hop hwork m
  exact ⟨u.noted m s.estimated, hturn.finds.formsSlip hturn.waiting hx, hturn.stands, hturn.keeps⟩

end

/-- Log 2: the occurrence's row takes the publication's step where it falls in it. -/
theorem exec_delayCountExpiry {s : State} {m : MonitorName} (hstate : (s.monitor m).state = .delaying)
    (hsoft : (s.estimateStep.monitor m).state = .soft) : exec (.delayCountExpiry m) s = .next s.estimateStep := by
  simp [exec, execDelayCountExpiry, occurring, hstate, hsoft, go]

theorem exec_softHoldExpiry {s : State} {m : MonitorName} (hstate : (s.monitor m).state = .soft)
    (hblanking : (s.estimateStep.monitor m).state = .blanking) :
    exec (.softHoldExpiry m) s = .next s.estimateStep := by
  simp [exec, execSoftHoldExpiry, occurring, hstate, hblanking, go]

/-- Settles O26: the monitor's act in its turn (`State.estimateStep_acts`) is a trigger, a clamp end or a write of its
record, by its state and the thresholds the slip is beyond (`State.actOnPublication_soft` and its kin). -/
theorem softClampRuns : Obligations.SoftClampRuns := by
  intro s m p x hop hwork hp hidle hx
  obtain rfl : s.estimated = p := Option.some.inj ((State.estimateStep_published hop hwork).symm.trans hp)
  obtain ⟨v, hv, hstands, hkeeps⟩ := State.estimateStep_acts hop hwork hx
  have hidle' : v.idleCondition m s.estimated = false := hv.idleCondition.trans hidle
  refine ⟨_, exec_estimatePublication s, fun hstate hsoft hhard => ?_, fun hstate hslip => ?_,
    fun hstate hhard hslip => ?_, fun hhard state count hnext => ?_⟩
  · rw [State.actOnPublication_soft hidle' hv.lastSlip (by rw [hv.state, hv.count, hv.params, hv.profile]; exact hstate)
      (hv.beyondSoft.trans hsoft) (hv.beyondHard.trans hhard)] at hstands hkeeps
    have hrecord : s.estimateStep.monitor m = v.softRecord m := hstands.monitor.trans State.triggerSoft_monitor
    have hstateSoft : (s.estimateStep.monitor m).state = .soft := by rw [hrecord]; rfl
    refine ⟨fun hdelaying => exec_delayCountExpiry hdelaying hstateSoft, hstateSoft, ?_, ?_, ?_, fun k hk => ?_,
      fun k hk => ?_, fun hforce hroom hnone => hkeeps ?_⟩
    · rw [hrecord]; rfl
    · rw [hrecord]; rfl
    · rw [hrecord, ← hv.params, ← hv.profile]; rfl
    · have hkm := (mem_monitorKeys m k).mp hk
      rw [hrecord, ← hv.params, ← hv.profile, ← hv.grantedForce hkm]
      exact (State.softCaps_get v m k).trans (if_pos hkm)
    · have hkm := (mem_monitorKeys m k).mp hk
      rw [hstands.grantedForce hkm, State.triggerSoft_grantedForce hkm, hv.params, hv.profile, hv.grantedForce hkm]
    · rw [State.triggerSoft_flu_eq]
      exact hv.mem_takeTrigger hforce hroom hnone
  · rw [State.actOnPublication_hard hidle' hv.lastSlip (by rw [hv.state]; exact hstate)
      (by rw [hv.state, hv.grace, hv.beyondSoft, hv.beyondHard]; exact hslip)] at hstands hkeeps
    refine ⟨?_, fun k hk => ?_, fun hforce hroom hnone => hkeeps ?_⟩
    · rw [hstands.monitor, State.triggerHard_monitor, hv.monitor]
      rfl
    · have hkm := (mem_monitorKeys m k).mp hk
      rw [hstands.grantedForce hkm, State.triggerHard_grantedForce hk, hv.grantedForce hkm]
    · rw [State.triggerHard_flu_eq]
      exact hv.mem_takeTrigger hforce hroom hnone
  · rw [State.actOnPublication_holds hidle' hv.lastSlip (hv.state.trans hstate) (hv.beyondHard.trans hhard)
      (by rw [hv.grace, hv.beyondSoft]; exact hslip), hv.count] at hstands
    refine ⟨fun hends => ?_, fun hcounts => ?_⟩
    · rw [if_pos hends, State.blankAfterClamp] at hstands
      have hrecord := hstands.monitor.trans (State.endClamp_monitor _)
      have hstateBlanking : (s.estimateStep.monitor m).state = .blanking := by rw [hrecord]
      refine ⟨exec_softHoldExpiry hstate hstateBlanking, hstateBlanking, ?_, fun k => ?_, fun k hk => ?_⟩
      · rw [hrecord, hv.params, hv.profile]
      · rw [hrecord]; cases k <;> rfl
      · have hkm := (mem_monitorKeys m k).mp hk
        rw [hstands.grantedForce hkm, hstands.grant k hkm, ← hv.grantedForce hkm]
        exact State.endClamp_recovers _ hkm
    · rw [if_neg (by omega)] at hstands
      have hrecord := hstands.monitor.trans (State.monitor_setMonitor_same _ _ _)
      refine ⟨?_, fun k hk => ?_⟩
      · rw [hrecord, hv.monitor]
      · have hkm := (mem_monitorKeys m k).mp hk
        exact (hstands.grant k hkm).trans (hv.grant k hkm)
  · rw [State.actOnPublication_writes hidle' hv.lastSlip (hv.beyondHard.trans hhard)
      (by rw [hv.state, hv.count, hv.beyondSoft, hv.params, hv.profile]; exact hnext)] at hstands
    have hrecord := hstands.monitor.trans (State.monitor_setMonitor_same _ _ _)
    refine ⟨?_, fun k hk => ?_⟩
    · rw [hrecord, hv.monitor]
    · have hkm := (mem_monitorKeys m k).mp hk
      exact (hstands.grant k hkm).trans (hv.grant k hkm)

end Sys2Proof.Machine
end

section
/-! PROOF. O35, O36, O37, O38: the shares of R84 to R87, policy by policy, and how they fill the budget in force. -/
namespace Sys2Proof.Machine

/-! ### The grants of a wheel -/

theorem wheelSum_rear (force : GrantKey → Nat) :
    wheelSum .rear force = force .eRearDrive + (force .eRearBrake + force .bRearBrake) := by
  simp [wheelSum, allKeys, GrantKey.wheel]

theorem wheelSum_front (force : GrantKey → Nat) : wheelSum .front force = force .bFrontBrake := by
  simp [wheelSum, allKeys, GrantKey.wheel]

/-- The grants of a wheel lie within what others grant key by key. -/
theorem wheelSum_mono {f g : GrantKey → Nat} (h : ∀ k, f k ≤ g k) (w : Wheel) : wheelSum w f ≤ wheelSum w g :=
  List.sum_le_sum fun k _ => h k

/-! ### Portions (R85 to R87) -/

/-- What the floor of a portion loses: nothing without a request, else less than one newton. -/
theorem mul_le_portion (requested limit : Nat) {total : Nat} (h : limit < total) :
    requested * limit ≤ total * portion requested limit total + if requested = 0 then 0 else total - 1 := by
  have hdiv := Nat.div_add_mod (requested * limit) total
  have hmod := Nat.mod_lt (requested * limit) (show 0 < total by omega)
  rw [portion, if_neg (by omega)]
  split
  next hzero => subst hzero; simp
  next => omega

/-- Portions of one limit, of requests that exceed it, stay within the limit (R79, R86). -/
theorem portion_sum_le {a b c limit : Nat} (h : limit < a + (b + c)) :
    portion a limit (a + (b + c)) + (portion b limit (a + (b + c)) + portion c limit (a + (b + c))) ≤ limit := by
  have hpart (x : Nat) : portion x limit (a + (b + c)) * (a + (b + c)) ≤ x * limit := by
    rw [portion, if_neg (by omega)]
    exact Nat.div_mul_le_self _ _
  have ha := hpart a
  have hb := hpart b
  have hc := hpart c
  refine Nat.le_of_mul_le_mul_right (c := a + (b + c)) ?_ (by omega)
  calc _ ≤ a * limit + (b * limit + c * limit) := by rw [Nat.add_mul, Nat.add_mul]; omega
    _ = limit * (a + (b + c)) := by ring

section
variable (s : State)

/-! ### The shares of one state (R84 to R87) -/

theorem State.brakePortion_add_le (limit : Nat) :
    s.brakePortion .eRearBrake limit + s.brakePortion .bRearBrake limit ≤ limit :=
  portion_add_le _ _ _

theorem WorkingCopy.drivePm_eq (c : WorkingCopy) : c.drivePm = min 1000 c.s2.drivePm := clampNat_zero _ _

/-- R87: the drive part is a part of the rear budget. -/
theorem State.drivePart_le : s.drivePart ≤ s.gre.budget.force.rear := by
  have hpm : s.params.drivePm ≤ 1000 := clampNat_le (by decide) _
  refine Nat.div_le_of_le_mul ?_
  rw [Nat.mul_comm 1000]
  exact Nat.mul_le_mul_left _ hpm

theorem State.share_rear_of_proportional (h : s.gre.policy = .proportional) {k : GrantKey} (hk : k.wheel = .rear) :
    s.share k = portion (s.requestedForce k) s.gre.budget.force.rear s.rearRequests := by
  cases k with
  | bFrontBrake => cases hk
  | _ => simp only [State.share, State.driveShare, State.brakeShare, h]

/-- R79, R85 to R87: the rear shares fit in the rear budget, whatever the policy. -/
theorem State.rearShares_le : wheelSum .rear s.share ≤ s.gre.budget.force.rear := by
  rw [wheelSum_rear]
  cases hpolicy : s.gre.policy with
  | brakeFirst =>
    have hbrakes := s.brakePortion_add_le s.gre.budget.force.rear
    simp only [State.share, State.driveShare, State.brakeShare, hpolicy]
    omega
  | proportional =>
    have hshare (k : GrantKey) (hk : k.wheel = .rear) := s.share_rear_of_proportional hpolicy hk
    rw [hshare _ rfl, hshare _ rfl, hshare _ rfl]
    by_cases hfit : s.rearRequests ≤ s.gre.budget.force.rear
    · simp only [portion, if_pos hfit]
      exact hfit
    · exact portion_sum_le (Nat.lt_of_not_le hfit)
  | fixedSplit =>
    have hbrakes := s.brakePortion_add_le s.brakeLimit
    have hwhole (k : GrantKey) := portion_le (s.requestedForce k) s.brakeLimit s.rearBrakeRequests
    have hdrive := s.drivePart_le
    have he := hwhole .eRearBrake
    have hb := hwhole .bRearBrake
    simp only [State.brakePortion, State.brakeLimit, State.brakePart, State.rearBrakeRequests] at hbrakes he hb
    simp only [State.share, State.driveShare, State.brakeShare, hpolicy, State.brakePortion, State.brakeLimit,
      State.brakePart, State.rearBrakeRequests]
    omega

/-- R84 to R87: no share exceeds its request. -/
theorem State.share_le (k : GrantKey) : s.share k ≤ s.requestedForce k := by
  cases k with
  | bFrontBrake => exact Nat.min_le_left _ _
  | eRearDrive =>
    simp only [State.share, State.driveShare]
    split
    · exact Nat.min_le_left _ _
    · exact portion_le _ _ _
    · exact Nat.min_le_left _ _
  | eRearBrake | bRearBrake =>
    simp only [State.share, State.brakeShare]
    split
    all_goals exact portion_le _ _ _

/-- R79: the shares of each wheel fit in its budget in force. -/
theorem State.shares_le (w : Wheel) : wheelSum w s.share ≤ s.gre.budget.force.get w := by
  cases w with
  | front => rw [wheelSum_front]; exact Nat.min_le_right _ _
  | rear => exact s.rearShares_le

/-! ### What the floors leave (R86) -/

/-- A key's part in the count of the rear grants. -/
def State.heldCount (k : GrantKey) : Nat := if (s.grant k).isSome then 1 else 0

theorem State.heldCount_le (k : GrantKey) : s.heldCount k ≤ 1 := by
  unfold State.heldCount
  split <;> omega

/-- A key that requests force holds a grant. -/
theorem State.heldCount_of_request {k : GrantKey} (h : s.requestedForce k ≠ 0) : s.heldCount k = 1 := by
  unfold State.heldCount
  cases hk : s.grant k with
  | none => exact absurd (by simp [State.requestedForce, hk]) h
  | some g => rfl

theorem State.rearGrants_length :
    (allKeys.filter fun k => k.wheel == .rear && (s.grant k).isSome).length
      = s.heldCount .eRearDrive + (s.heldCount .eRearBrake + s.heldCount .bRearBrake) := by
  have hfront : (Wheel.front == Wheel.rear) = false := rfl
  simp only [State.heldCount, allKeys, GrantKey.wheel, List.filter_cons, List.filter_nil, hfront, beq_self_eq_true,
    Bool.true_and, Bool.false_and, Bool.false_eq_true, if_false]
  split_ifs <;> rfl

/-- R86: the floor of a key's portion loses less than one newton, and nothing where there is no grant. -/
theorem State.mul_le_portion (k : GrantKey) {limit total : Nat} (h : limit < total) :
    s.requestedForce k * limit
      ≤ total * portion (s.requestedForce k) limit total + (total - 1) * s.heldCount k := by
  refine (Machine.mul_le_portion _ _ h).trans (Nat.add_le_add_left ?_ _)
  split
  next => exact Nat.zero_le _
  next hrequest => rw [s.heldCount_of_request hrequest, Nat.mul_one]

/-- Floors that lose less than one newton each lose fewer than there are of them. -/
theorem lt_add_of_floors {total limit sum count : Nat} (htotal : 0 < total) (hcount : 0 < count)
    (h : total * limit ≤ total * sum + (total - 1) * count) : limit < sum + count := by
  refine Nat.lt_of_mul_lt_mul_left (a := total) (h.trans_lt ?_)
  rw [Nat.mul_add]
  exact Nat.add_lt_add_left (Nat.mul_lt_mul_of_pos_right (by omega) hcount) _

/-- R86: fewer newtons stay unallocated than there are rear grants. -/
theorem State.lt_rearShares (hpolicy : s.gre.policy = .proportional)
    (hover : s.gre.budget.force.rear < s.rearRequests) :
    s.gre.budget.force.rear < wheelSum .rear s.share
      + (s.heldCount .eRearDrive + (s.heldCount .eRearBrake + s.heldCount .bRearBrake)) := by
  have hshare (k : GrantKey) (hk : k.wheel = .rear) := s.share_rear_of_proportional hpolicy hk
  have hd := s.mul_le_portion .eRearDrive hover
  have he := s.mul_le_portion .eRearBrake hover
  have hb := s.mul_le_portion .bRearBrake hover
  have htotal : s.rearRequests
      = s.requestedForce .eRearDrive + (s.requestedForce .eRearBrake + s.requestedForce .bRearBrake) := rfl
  rw [wheelSum_rear, hshare _ rfl, hshare _ rfl, hshare _ rfl]
  refine lt_add_of_floors (total := s.rearRequests) (by omega) ?_ ?_
  · by_contra hnone
    have hzero (k : GrantKey) (hk : s.heldCount k = 0) : s.requestedForce k = 0 := by
      by_contra hrequest
      rw [s.heldCount_of_request hrequest] at hk
      cases hk
    have := hzero .eRearDrive (by omega)
    have := hzero .eRearBrake (by omega)
    have := hzero .bRearBrake (by omega)
    omega
  · calc s.rearRequests * s.gre.budget.force.rear
        = s.requestedForce .eRearDrive * s.gre.budget.force.rear
            + (s.requestedForce .eRearBrake * s.gre.budget.force.rear
              + s.requestedForce .bRearBrake * s.gre.budget.force.rear) := by rw [htotal, Nat.add_mul, Nat.add_mul]
      _ ≤ _ := Nat.add_le_add hd (Nat.add_le_add he hb)
      _ = _ := by ring

end

/-- Settles O38: the rear shares policy by policy (`State.rearShares_le`), the front share by its minimum. -/
theorem sharesFitBudget : Obligations.SharesFitBudget := fun s => ⟨s.shares_le, s.share_le⟩

/-- Settles O37: each share is a portion, and the floors lose fewer newtons than there are grants. -/
theorem proportionalShares : Obligations.ProportionalShares := by
  intro s hpolicy
  refine ⟨fun k hk => s.share_rear_of_proportional hpolicy hk, fun hover => ?_⟩
  have hlost := s.lt_rearShares hpolicy hover
  have hd := s.heldCount_le .eRearDrive
  have he := s.heldCount_le .eRearBrake
  have hb := s.heldCount_le .bRearBrake
  rw [s.rearGrants_length]
  exact ⟨s.rearShares_le, by omega, by omega⟩

/-- Settles O36: the shares as the two policies define them; the brake shares never look at the drive grant. -/
theorem brakeFirstAndFixedShares : Obligations.BrakeFirstAndFixedShares := by
  refine ⟨fun s hpolicy => ?_, fun s ds bs hpolicy hds hbs => ?_⟩
  · have hbrake (k : GrantKey) (hk : k = .eRearBrake ∨ k = .bRearBrake) :
        s.share k = s.brakePortion k s.gre.budget.force.rear := by
      rcases hk with rfl | rfl <;> simp only [State.share, State.brakeShare, hpolicy]
    have hdrive : s.share .eRearDrive = min (s.requestedForce .eRearDrive)
        (s.gre.budget.force.rear - (s.share .eRearBrake + s.share .bRearBrake)) := by
      rw [hbrake _ (.inl rfl), hbrake _ (.inr rfl)]
      simp only [State.share, State.driveShare, hpolicy]
    refine ⟨hbrake, hdrive, fun g k hk => ?_, fun hfull => ?_⟩
    · rw [hbrake k hk]
      rcases hk with rfl | rfl <;> simp only [State.share, State.brakeShare, State.setGre_gre, hpolicy] <;> rfl
    · rw [hdrive, hfull, Nat.sub_self, Nat.min_zero]
  · have hdrive : ds = s.drivePart := by rw [hds, State.drivePart, WorkingCopy.drivePm_eq]
    have hbrake : bs = s.brakePart := by rw [hbs, hdrive]; rfl
    subst hdrive hbrake
    refine ⟨?_, fun k hk => ?_⟩
    · simp only [State.share, State.driveShare, hpolicy]
    · rcases hk with rfl | rfl <;> simp only [State.share, State.brakeShare, hpolicy] <;> rfl

/-- Settles O35: the front share asks no policy. -/
theorem frontShare : Obligations.FrontShare := by
  refine fun s policy => ⟨fun g hg => ?_, fun hnone => ?_⟩
  · have hrequest : s.requestedForce .bFrontBrake = g.requested := by simp [State.requestedForce, hg]
    rw [← hrequest]; rfl
  · have hrequest : s.requestedForce .bFrontBrake = 0 := by simp [State.requestedForce, hnone]
    exact (congrArg (min · s.gre.budget.force.front) hrequest).trans (Nat.zero_min _)

end Sys2Proof.Machine
end

section
/-! SUPPORT. What most steps are to the granted forces: no grant arises, none rises, and what bounds the grants still bounds
them. The relation holds step by step, so the laws of R77 to R79 and R98 need it proved of each operation once. -/
namespace Sys2Proof.Machine

/-! ### One grant (R77, R78, R88) -/

theorem Grant.bounded_iff (g : Grant) :
    g.bounded = true ↔ g.granted ≤ g.requested ∧ g.requested ≤ 20000 ∧ g.rampBase ≤ g.granted
      ∧ ∀ n cause frozen, g.confirmation = .unconfirmed n cause frozen → 1 ≤ n ∧ n ≤ 250 ∧ g.granted ≤ frozen := by
  unfold Grant.bounded
  cases hconf : g.confirmation with
  | confirmed => simp [and_assoc]
  | unconfirmed n cause frozen => simp [and_assoc]

/-- A grant after a change that raises no force and keeps its bounds. -/
structure Grant.Eases (g g' : Grant) : Prop where
  granted : g'.granted ≤ g.granted
  bounded : g.bounded = true → g'.bounded = true

section
variable (g : Grant)

theorem Grant.Eases.refl : g.Eases g := ⟨le_rfl, id⟩

theorem Grant.Eases.trans {g g' g'' : Grant} (h : g.Eases g') (h' : g'.Eases g'') : g.Eases g'' :=
  ⟨h'.granted.trans h.granted, h'.bounded ∘ h.bounded⟩

theorem Grant.lower_eases (v : Nat) : g.Eases (g.lower v) := by
  refine ⟨Nat.min_le_left _ _, ?_⟩
  simp only [Grant.bounded_iff, Grant.lower]
  rintro ⟨hgranted, hrequested, -, hfrozen⟩
  refine ⟨(Nat.min_le_left _ _).trans hgranted, hrequested, Nat.min_le_right _ _, fun n cause frozen hconf => ?_⟩
  obtain ⟨hlo, hhi, hle⟩ := hfrozen n cause frozen hconf
  exact ⟨hlo, hhi, (Nat.min_le_left _ _).trans hle⟩

/-- The derived state and the flags bound no force. -/
theorem Grant.rederive_eases (m : Monitor) (k : GrantKey) : g.Eases (g.rederive m k) := ⟨le_rfl, id⟩

theorem Grant.recovering_eases : g.Eases { g with recovering := true } := ⟨le_rfl, id⟩

theorem Grant.reported_eases (n : Nat) : g.Eases (g.reported n) := ⟨le_rfl, id⟩

theorem Grant.confirmed_eases : g.Eases { g with confirmation := .confirmed } := by
  refine ⟨le_rfl, ?_⟩
  simp only [Grant.bounded_iff]
  rintro ⟨hgranted, hrequested, hramp, -⟩
  exact ⟨hgranted, hrequested, hramp, nofun⟩

/-- R100: a grant frozen at its granted force. -/
theorem Grant.frozen_eases (cause : DoubtCause) :
    g.Eases { g with confirmation := .unconfirmed 250 cause g.granted } := by
  refine ⟨le_rfl, ?_⟩
  simp only [Grant.bounded_iff]
  rintro ⟨hgranted, hrequested, hramp, -⟩
  refine ⟨hgranted, hrequested, hramp, ?_⟩
  rintro n cause frozen ⟨⟩
  exact ⟨by decide, le_rfl, le_rfl⟩

end

/-! ### The table -/

/-- A step that raises no granted force: no grant is created, none rises or leaves its bounds; a monitor enters HARD only
where its grants hold nothing; but for a re-evaluation taken, the budget in force stands; a part that operates did; and the
retained record takes no contents that were not there. -/
structure State.Eases (s t : State) : Prop where
  grant : ∀ k g', t.grant k = some g' → ∃ g, s.grant k = some g ∧ g.Eases g'
  hard : ∀ k, (t.monitor k.monitor).state = .hard →
    (s.monitor k.monitor).state = .hard ∨ (t.grantedForce k).getD 0 = 0
  budget : t.operating = true → t.gre.engine = .reevaluation ∨
    (t.gre.budget = s.gre.budget ∧ s.gre.engine ≠ .reevaluation)
  operating : t.operating = true → s.operating = true
  record : ∀ test, s.sup.eachContents test = true → t.sup.eachContents test = true

section
variable {s t u : State}

theorem State.grantedForce_of_some {k : GrantKey} {g : Grant} (h : s.grant k = some g) :
    (s.grantedForce k).getD 0 = g.granted := by simp [State.grantedForce, h]

/-- R78, R98: no granted force has risen. -/
theorem State.Eases.grantedForce_le (h : s.Eases t) (k : GrantKey) :
    (t.grantedForce k).getD 0 ≤ (s.grantedForce k).getD 0 := by
  cases hk : t.grant k with
  | none => simp [State.grantedForce, hk]
  | some g' =>
    obtain ⟨g, hg, heases⟩ := h.grant k g' hk
    rw [State.grantedForce_of_some hk, State.grantedForce_of_some hg]
    exact heases.granted

/-- A step that moves the table alone, of all that the laws of the grants read. -/
theorem State.Eases.of_table (hgrant : ∀ k g', t.grant k = some g' → ∃ g, s.grant k = some g ∧ g.Eases g')
    (hbudget : t.gre.budget = s.gre.budget) (hengine : t.gre.engine = s.gre.engine) (hslm : t.slm = s.slm)
    (hsup : t.sup = s.sup) : s.Eases t where
  grant := hgrant
  hard := fun k hhard => .inl (by rwa [State.monitor, hslm] at hhard)
  budget := fun _ => by
    by_cases hbusy : t.gre.engine = .reevaluation
    · exact .inl hbusy
    · exact .inr ⟨hbudget, hengine ▸ hbusy⟩
  operating := by simp only [State.operating, hsup, imp_self]
  record := fun _ => by rw [hsup]; exact id

theorem State.Eases.of_eq (hgre : t.gre = s.gre) (hslm : t.slm = s.slm) (hsup : t.sup = s.sup) : s.Eases t :=
  .of_table (fun k g' hg' => ⟨g', by rwa [State.grant, ← hgre], .refl g'⟩) (by rw [hgre]) (by rw [hgre]) hslm hsup

theorem State.Eases.refl (s : State) : s.Eases s := .of_eq rfl rfl rfl

theorem State.Eases.trans (h : s.Eases t) (h' : t.Eases u) : s.Eases u where
  grant := fun k g'' hg'' => by
    obtain ⟨g', hg', heases'⟩ := h'.grant k g'' hg''
    obtain ⟨g, hg, heases⟩ := h.grant k g' hg'
    exact ⟨g, hg, heases.trans heases'⟩
  hard := fun k hhard => by
    rcases h'.hard k hhard with hhard' | hnothing
    · rcases h.hard k hhard' with hhard | hnothing
      · exact .inl hhard
      · exact .inr (Nat.le_zero.mp ((h'.grantedForce_le k).trans_eq hnothing))
    · exact .inr hnothing
  budget := fun hop => by
    rcases h'.budget hop with hbusy | ⟨hbudget', hfree'⟩
    · exact .inl hbusy
    · obtain ⟨hbudget, hfree⟩ := (h.budget (h'.operating hop)).resolve_left hfree'
      exact .inr ⟨hbudget'.trans hbudget, hfree⟩
  operating := h.operating ∘ h'.operating
  record := fun test => h'.record test ∘ h.record test

/-- The same, the later step named first. -/
theorem State.Eases.after (h' : t.Eases u) (h : s.Eases t) : s.Eases u := h.trans h'

/-! ### The laws kept -/

theorem eachKey_iff (test : GrantKey → Bool) : eachKey test = true ↔ ∀ k, test k = true := by
  simp only [eachKey, List.all_eq_true, mem_allKeys, true_imp_iff]

/-- R77, R78: a record's grants within their bounds. -/
abbrev RecordContents.grantsBounded (c : RecordContents) : Bool :=
  eachKey fun k => (c.grants.get k).all RetainedGrant.bounded

/-- R98: no force under a monitor recorded in HARD. -/
abbrev RecordContents.hardHoldsNothing (c : RecordContents) : Bool :=
  eachKey fun k => (c.monitors.get k.monitor).state != .hard || ((c.grants.get k).map RetainedGrant.granted).getD 0 == 0

theorem RecordContents.grantsBounded_iff (c : RecordContents) :
    c.grantsBounded = true ↔ ∀ k r, c.grants.get k = some r → r.granted ≤ r.requested ∧ r.requested ≤ 20000 := by
  simp only [eachKey_iff, Option.all_eq_true, RetainedGrant.bounded, Bool.and_eq_true, decide_eq_true_eq]

theorem RecordContents.hardHoldsNothing_iff (c : RecordContents) :
    c.hardHoldsNothing = true ↔ ∀ k, (c.monitors.get k.monitor).state = .hard →
      ((c.grants.get k).map RetainedGrant.granted).getD 0 = 0 := by
  simp only [eachKey_iff, Bool.or_eq_true, bne_iff_ne, beq_iff_eq, ne_eq, ← imp_iff_not_or]

theorem RecordContents.withinBudget_iff (c : RecordContents) :
    c.withinBudget = true ↔ ∀ w, c.grantedOn w ≤ c.budget.force.get w := by
  simp only [RecordContents.withinBudget, Bool.and_eq_true, decide_eq_true_eq]
  exact ⟨fun h w => by cases w <;> [exact h.1; exact h.2], fun h => ⟨h .front, h .rear⟩⟩

theorem State.grantsBounded_iff : s.grantsBounded = true ↔
    (∀ k g, s.grant k = some g → g.bounded = true) ∧ s.sup.eachContents RecordContents.grantsBounded = true := by
  simp only [State.grantsBounded, Bool.and_eq_true, eachKey_iff, Option.all_eq_true]

theorem State.hardHoldsNothing_iff : s.hardHoldsNothing = true ↔
    (∀ k, (s.monitor k.monitor).state = .hard → (s.grantedForce k).getD 0 = 0)
      ∧ s.sup.eachContents RecordContents.hardHoldsNothing = true := by
  simp only [State.hardHoldsNothing, Bool.and_eq_true, eachKey_iff, Bool.or_eq_true, bne_iff_ne, beq_iff_eq, ne_eq,
    ← imp_iff_not_or]

/-- R79: the granted forces fit in the budget in force. -/
def State.FitsBudget (s : State) : Prop := ∀ w, s.grantedOn w ≤ s.gre.budget.force.get w

theorem State.withinBudget_iff : s.withinBudget = true ↔
    (s.operating = true → s.gre.engine = .reevaluation ∨ s.FitsBudget)
      ∧ s.sup.eachContents RecordContents.withinBudget = true := by
  have hfits : s.FitsBudget
      ↔ s.grantedOn .front ≤ s.gre.budget.force.front ∧ s.grantedOn .rear ≤ s.gre.budget.force.rear :=
    ⟨fun h => ⟨h .front, h .rear⟩, fun h w => by cases w <;> [exact h.1; exact h.2]⟩
  simp only [State.withinBudget, Bool.and_eq_true, Bool.or_eq_true, Bool.not_eq_true', beq_iff_eq, decide_eq_true_eq,
    hfits, imp_iff_not_or, Bool.not_eq_true, or_assoc]

/-- R98: an eased state holds no force under HARD where it held none. -/
theorem State.Eases.hardHolds (h : s.Eases t)
    (hs : ∀ k, (s.monitor k.monitor).state = .hard → (s.grantedForce k).getD 0 = 0) :
    ∀ k, (t.monitor k.monitor).state = .hard → (t.grantedForce k).getD 0 = 0 := fun k hhard => by
  rcases h.hard k hhard with hhard | hnothing
  · exact Nat.le_zero.mp ((h.grantedForce_le k).trans_eq (hs k hhard))
  · exact hnothing

/-- R77, R78: an eased state keeps the bounds of its grants. -/
theorem State.Eases.bounded (h : s.Eases t) (hs : ∀ k g, s.grant k = some g → g.bounded = true) :
    ∀ k g, t.grant k = some g → g.bounded = true := fun k g' hg' => by
  obtain ⟨g, hg, heases⟩ := h.grant k g' hg'
  exact heases.bounded (hs k g hg)

/-- R79: an eased state fits in its budget in force, or has just taken a re-evaluation. -/
theorem State.Eases.fitsBudget (h : s.Eases t)
    (hs : s.operating = true → s.gre.engine = .reevaluation ∨ s.FitsBudget) :
    t.operating = true → t.gre.engine = .reevaluation ∨ t.FitsBudget := fun hop => by
  refine (h.budget hop).imp_right ?_
  rintro ⟨hbudget, hfree⟩ w
  rw [hbudget]
  exact (wheelSum_mono h.grantedForce_le w).trans ((hs (h.operating hop)).resolve_left hfree w)

end
end Sys2Proof.Machine
end

section
/-! SUPPORT. The operations that raise no granted force: the writes to the table, the monitors' acts, the ports, the store. -/
namespace Sys2Proof.Machine

section
variable (s : State)

/-! ### Writes to the table -/

/-- A grant removed, or written with no more force than the one it replaces. -/
theorem State.writeGrant_eases (k : GrantKey) {x : Option Grant}
    (h : ∀ g', x = some g' → ∃ g, s.grant k = some g ∧ g.Eases g') : s.Eases (s.writeGrant k x) := by
  refine .of_table (fun j g' hg' => ?_) (by simp) (by simp) (by simp) (by simp)
  rw [State.writeGrant_grant] at hg'
  split at hg'
  next hj => subst hj; exact h g' hg'
  next => exact ⟨g', hg', .refl g'⟩

theorem State.changeGrant_eases (k : GrantKey) {f : Grant → Grant} (h : ∀ g : Grant, g.Eases (f g)) :
    s.Eases (s.changeGrant k f) := by
  unfold State.changeGrant
  split
  · exact .refl s
  next g hg =>
    refine s.writeGrant_eases k ?_
    rintro g' ⟨⟩
    exact ⟨g, hg, h g⟩

theorem State.changeGrants_eases (ks : List GrantKey) {f : GrantKey → Grant → Grant} (h : ∀ k (g : Grant), g.Eases (f k g)) :
    s.Eases (s.changeGrants ks f) := by
  induction ks generalizing s with
  | nil => exact .refl s
  | cons k ks ih => exact (s.changeGrant_eases k (h k)).trans (ih _)

theorem State.confirmGrants_eases (p : PortName) : s.Eases (s.confirmGrants p) :=
  s.changeGrants_eases _ fun _ g => g.confirmed_eases

theorem State.freezeGrants_eases (p : PortName) : s.Eases (s.freezeGrants p) :=
  s.changeGrants_eases _ fun _ g => g.frozen_eases _

/-! ### The monitors' acts (R98, R99, R111 to R122) -/

/-- A monitor's record replaced by one that is in HARD only where it was. -/
theorem State.setMonitor_eases (m : MonitorName) {x : Monitor} (h : x.state = .hard → (s.monitor m).state = .hard) :
    s.Eases (s.setMonitor m x) where
  grant := fun _ g hg => ⟨g, hg, .refl g⟩
  hard := fun k hhard => by
    by_cases hk : k.monitor = m
    · rw [hk, State.monitor_setMonitor_same] at hhard
      exact .inl (hk ▸ h hhard)
    · rw [State.monitor_setMonitor_other _ _ _ _ hk] at hhard
      exact .inl hhard
  budget := (State.Eases.refl s).budget
  operating := id
  record := fun _ => id

theorem State.endClamp_eases (m : MonitorName) {x : Monitor} (h : x.state = .hard → (s.monitor m).state = .hard) :
    s.Eases (s.endClamp m x) :=
  (s.setMonitor_eases m h).trans
    (State.changeGrants_eases _ _ fun k g => g.recovering_eases.trans (Grant.rederive_eases _ x k))

theorem State.takeTrigger_eases (m : MonitorName) (force : Nat) (target : Word16) :
    s.Eases (s.takeTrigger m force target) := .of_eq (by simp) (by simp) (by simp)

theorem State.triggerSoft_eases (m : MonitorName) (target : Word16) : s.Eases (s.triggerSoft m target) :=
  ((s.setMonitor_eases m (x := s.softRecord m) nofun).trans
    (State.changeGrants_eases _ _ fun k g => (g.lower_eases _).trans (Grant.rederive_eases _ _ k))).trans
    (State.takeTrigger_eases _ _ _ _)

/-- R98: a trigger into HARD leaves the monitor's grants no force. -/
theorem State.triggerHard_eases (m : MonitorName) (kind : TriggerKind) (target : Word16) :
    s.Eases (s.triggerHard m kind target) where
  grant := fun k g' hg' => by
    rw [State.triggerHard_grant] at hg'
    split at hg'
    · obtain ⟨g, hg, rfl⟩ := Option.map_eq_some_iff.mp hg'
      exact ⟨g, hg, (g.lower_eases 0).trans (Grant.rederive_eases _ _ k)⟩
    · exact ⟨g', hg', .refl g'⟩
  hard := fun k hhard => by
    by_cases hk : k.monitor = m
    · refine .inr ?_
      rw [State.triggerHard_grantedForce ((mem_monitorKeys m k).mpr hk)]
      cases s.grantedForce k <;> rfl
    · exact .inl (by rwa [State.monitor, State.triggerHard_slm, PerMonitor.get_set_other _ _ _ _ hk] at hhard)
  budget := fun hop => by
    rw [State.triggerHard_gre]
    exact (State.Eases.refl s).budget (by simpa [State.operating] using hop)
  operating := by simp [State.operating]
  record := fun _ => by simp

theorem State.blankAfterClamp_eases (m : MonitorName) : s.Eases (s.blankAfterClamp m) := s.endClamp_eases m nofun

theorem State.idleMonitor_eases (m : MonitorName) : s.Eases (s.idleMonitor m) := by
  unfold State.idleMonitor
  split
  · exact s.endClamp_eases m nofun
  · exact s.setMonitor_eases m nofun

theorem State.armedPublication_eases (m : MonitorName) (x : Int) (target : Word16) :
    s.Eases (s.armedPublication m x target) := by
  unfold State.armedPublication
  split_ifs
  · exact s.triggerHard_eases m _ _
  · exact s.triggerSoft_eases m _
  · exact s.setMonitor_eases m nofun
  · exact s.setMonitor_eases m nofun

theorem State.delayingPublication_eases (m : MonitorName) (x : Int) (target : Word16) :
    s.Eases (s.delayingPublication m x target) := by
  unfold State.delayingPublication
  split_ifs
  · exact s.triggerHard_eases m _ _
  · exact s.triggerSoft_eases m _
  · exact s.setMonitor_eases m id
  · exact s.setMonitor_eases m nofun

theorem State.softPublication_eases (m : MonitorName) (x : Int) (target : Word16) :
    s.Eases (s.softPublication m x target) := by
  unfold State.softPublication
  split_ifs
  · exact s.triggerHard_eases m _ _
  · exact s.triggerHard_eases m _ _
  · exact s.blankAfterClamp_eases m
  · exact s.setMonitor_eases m id

theorem State.hardPublication_eases (m : MonitorName) (x : Option Int) : s.Eases (s.hardPublication m x) := by
  unfold State.hardPublication
  split_ifs
  · exact s.blankAfterClamp_eases m
  · exact s.setMonitor_eases m id

theorem State.blankingPublication_eases (m : MonitorName) (x : Int) (target : Word16) :
    s.Eases (s.blankingPublication m x target) := by
  unfold State.blankingPublication
  split_ifs
  · exact s.triggerHard_eases m _ _
  · exact s.setMonitor_eases m nofun
  · exact s.setMonitor_eases m id

theorem State.actOnPublication_eases (m : MonitorName) (p : Publication) : s.Eases (s.actOnPublication m p) := by
  have hidle := s.idleMonitor_eases m
  unfold State.actOnPublication
  dsimp only
  split
  · exact s.hardPublication_eases m _
  · split
    · exact .refl s
    · exact s.armedPublication_eases m _ _
  · split
    · exact hidle
    · exact s.armedPublication_eases m _ _
  · split
    · exact hidle
    · exact s.delayingPublication_eases m _ _
  · split
    · exact hidle
    · exact s.softPublication_eases m _ _
  · split
    · exact hidle
    · exact s.blankingPublication_eases m _ _

theorem State.monitorPublication_eases (p : Publication) (m : MonitorName) : s.Eases (s.monitorPublication p m) :=
  (State.actOnPublication_eases _ m p).after (s.setMonitor_eases m id)

theorem State.publishEstimate_eases : s.Eases s.publishEstimate := by
  by_cases hidle : s.leu.work = .idle
  · simp only [State.publishEstimate, hidle, if_true]
    exact .refl s
  · rw [State.publishEstimate_eq hidle]
    refine State.Eases.trans ?_ ((State.monitorPublication_eases _ _ .rearSpin).trans
      ((State.monitorPublication_eases _ _ .rearLock).trans (State.monitorPublication_eases _ _ .frontLock)))
    exact .of_eq rfl rfl rfl

theorem State.monitorCapture_eases (edge : Nat) (period : Option Nat) (seen : WheelState) (m : MonitorName) :
    s.Eases (s.monitorCapture edge period seen m) := by
  unfold State.monitorCapture
  cases seen with
  | invalid =>
    dsimp only
    split
    · exact (State.idleMonitor_eases _ m).after (s.setMonitor_eases m id)
    · exact s.setMonitor_eases m id
  | valid =>
    dsimp only
    split
    · exact (State.triggerHard_eases _ m _ _).after (s.setMonitor_eases m id)
    · exact s.setMonitor_eases m id

theorem State.captureTooth_eases (w : Wheel) (edge : Nat) : s.Eases (s.captureTooth w edge) := by
  have hone {t : State} (ht : s.Eases t) (m : MonitorName) (period : Option Nat) (seen : WheelState) :
      s.Eases (t.monitorCapture edge period seen m) := ht.trans (t.monitorCapture_eases _ _ _ _)
  have hwheel (x : WheelInput) : s.Eases (s.setWheel w x) := .of_eq rfl rfl rfl
  unfold State.captureTooth State.handOnCapture
  dsimp only
  split
  · exact hone (hwheel _) _ _ _
  · exact hone (hone (hwheel _) _ _ _) _ _ _

theorem State.lockWindowExpires_eases (m : MonitorName) : s.Eases (s.lockWindowExpires m) := by
  unfold State.lockWindowExpires
  split
  · exact .refl s
  · dsimp only
    split
    · exact (State.triggerHard_eases _ m _ _).after (s.setMonitor_eases m id)
    · exact s.setMonitor_eases m id

theorem State.serveClampClear_eases (p : PortName) (r : Request) : s.Eases (s.serveClampClear p r) := by
  unfold State.serveClampClear
  split
  · refine State.Eases.trans (t := s.clampCleared r) ?_ (.of_eq rfl rfl rfl)
    unfold State.clampCleared
    split
    · exact .refl s
    · exact s.blankAfterClamp_eases _
  · exact .of_eq rfl rfl rfl

theorem State.serveShiftNotice_eases : s.Eases s.serveShiftNotice := by
  unfold State.serveShiftNotice
  split
  · refine State.Eases.trans (t := s.shiftNoticed) ?_ (.of_eq rfl rfl rfl)
    unfold State.shiftNoticed
    split
    · exact s.setMonitor_eases _ nofun
    · exact s.setMonitor_eases _ nofun
    all_goals exact .refl s
  · exact .of_eq rfl rfl rfl

/-! ### The ports (R100, R101, R142, R145, R149) -/

theorem State.linkPresence_eases (p : PortName) : s.Eases (s.linkPresence p) := by
  unfold State.linkPresence
  split
  · exact .of_eq rfl rfl rfl
  · exact (State.confirmGrants_eases _ p).after (.of_eq rfl rfl rfl)

theorem State.arrive_eases (p : PortName) (r : Request) : s.Eases (s.arrive p r) := by
  unfold State.arrive
  dsimp only
  split
  · exact s.linkPresence_eases p
  · exact (s.linkPresence_eases p).trans (.of_eq rfl rfl rfl)

theorem State.endFrame_eases (p : PortName) : s.Eases (s.endFrame p) := by
  unfold State.endFrame
  dsimp only
  split
  · exact .of_eq rfl rfl rfl
  · exact (State.arrive_eases _ p _).after (.of_eq rfl rfl rfl)

theorem State.byteArrives_eases (p : PortName) (byte : Byte) (fault : Bool) : s.Eases (s.byteArrives p byte fault) := by
  unfold State.byteArrives
  split
  · split
    · exact .of_eq rfl rfl rfl
    · exact (s.endFrame_eases p).trans (.of_eq rfl rfl rfl)
  all_goals exact .of_eq rfl rfl rfl

theorem State.frameEnds_eases (p : PortName) : s.Eases (s.frameEnds p) := by
  unfold State.frameEnds
  split
  · exact s.endFrame_eases p
  all_goals exact .refl s

theorem State.linkHeld_eases (p : PortName) : s.Eases (s.linkHeld p) := by
  unfold State.linkHeld
  split
  · exact s.endFrame_eases p
  · exact s.arrive_eases p _

theorem State.serveCheckTest_eases (p : PortName) (r : Request) : s.Eases (s.serveCheckTest p r) := by
  unfold State.serveCheckTest
  split
  all_goals exact .of_eq rfl rfl rfl

theorem State.silenceRises_eases (p : PortName) : s.Eases (s.silenceRises p) := by
  have hport : s.Eases (s.setPort p (s.port p).silenceRises) := .of_eq rfl rfl rfl
  unfold State.silenceRises
  dsimp only
  split
  · have hfrozen := hport.trans (State.freezeGrants_eases _ p)
    split
    · exact hfrozen.trans (.of_eq rfl rfl rfl)
    · exact hfrozen
  · exact hport

theorem State.cycleTimerExpires_eases : s.Eases s.cycleTimerExpires := by
  unfold State.cycleTimerExpires
  split
  · exact .refl s
  · refine State.Eases.trans ?_ ((State.silenceRises_eases _ .e).trans
      ((State.silenceRises_eases _ .b).trans (State.silenceRises_eases _ .c)))
    exact .of_eq rfl rfl rfl

/-! ### Samples, budgets, ride settings, the store -/

/-- The supervisor's start state moved on while the part operates, the retained record untouched (R188, R189). -/
theorem State.Eases.of_start {s t : State} (hop : s.operating = true) (hgrants : t.gre.grants = s.gre.grants)
    (hbudget : t.gre.budget = s.gre.budget) (hengine : t.gre.engine = s.gre.engine) (hslm : t.slm = s.slm)
    (hrecord : t.sup.record = s.sup.record) (hrewrite : t.sup.rewrite = s.sup.rewrite) : s.Eases t where
  grant := fun k g' hg' => ⟨g', by rwa [State.grant, ← hgrants], .refl g'⟩
  hard := fun k hhard => .inl (by rwa [State.monitor, hslm] at hhard)
  budget := fun _ => by
    rw [hbudget, hengine]
    exact (State.Eases.refl s).budget hop
  operating := fun _ => hop
  record := fun _ h => Sup.eachContents_of_eq h (congrArg _ hrecord) hrewrite

theorem State.operating_of_start {s : State} {x : StartState} (h : s.sup.start = x) (hx : x ≠ .off ∧ x ≠ .reset) :
    s.operating = true := by
  obtain ⟨hoff, hreset⟩ := hx
  unfold State.operating
  split
  · simp_all
  · simp_all
  all_goals rfl

theorem State.loadCompletes_eases : s.Eases s.loadCompletes := by
  unfold State.loadCompletes
  split
  next hloading =>
    refine .of_start (State.operating_of_start hloading (by decide)) ?_ ?_ ?_ rfl rfl rfl
    all_goals
      simp only [State.loadedGre]
      split <;> rfl
  next => exact .refl s

theorem State.endSensorWait_eases (h : s.sup.start = .sensorWait) : s.Eases s.endSensorWait :=
  .of_start (State.operating_of_start h (by decide)) rfl rfl rfl rfl rfl rfl

theorem State.sampleCompleted_eases : s.Eases s.sampleCompleted := by
  unfold State.sampleCompleted
  dsimp only
  have hquiet {t : State} (ht : s.Eases t) (x : Leu) : s.Eases (t.setLeu x) := ht.trans (.of_eq rfl rfl rfl)
  have hclosed {t : State} (ht : s.Eases t) : s.Eases t.closeSession := ht.trans (.of_eq rfl rfl rfl)
  have hends : s.Eases (if (s.sup.start == .sensorWait && s.sif.sample.imuValid) = true then s.endSensorWait else s) := by
    split
    next h =>
      simp only [Bool.and_eq_true, beq_iff_eq] at h
      exact s.endSensorWait_eases h.1
    next => exact .refl s
  refine hquiet ?_ _
  split
  · exact hclosed hends
  · exact hends

theorem State.transactionCompletes_eases (block : Vector Byte 16) : s.Eases (s.transactionCompletes block) := by
  unfold State.transactionCompletes
  split
  · exact (State.sampleCompleted_eases _).after (.of_eq rfl rfl rfl)
  · exact .refl s

theorem State.rewriteCompletes_eases : s.Eases s.rewriteCompletes := by
  unfold State.rewriteCompletes
  split
  · exact .refl s
  next c hc =>
    exact ⟨fun _ g hg => ⟨g, hg, .refl g⟩, fun _ h => .inl h, (State.Eases.refl s).budget, id,
      fun _ h => Sup.rewritten_eachContents h hc⟩

theorem State.publishBudget_eases : s.Eases s.publishBudget := by
  unfold State.publishBudget
  split
  · split
    · exact .refl s
    · rw [State.computeBudget_eq]
      exact .of_table (fun _ g hg => ⟨g, hg, .refl g⟩) rfl rfl rfl rfl
  · exact .refl s

theorem State.profileSetServed_eases (r : Request) : s.Eases (s.profileSetServed r) := by
  unfold State.profileSetServed State.profileSetAt State.serveProfileSet
  split
  all_goals exact .of_eq rfl rfl rfl

theorem State.sampleService_eases (high : Bool) : s.Eases (s.sampleService high) := by
  unfold State.sampleService
  dsimp only
  split
  all_goals exact .of_eq rfl rfl rfl

theorem State.serveOpen_eases : s.Eases s.serveOpen := by
  unfold State.serveOpen
  split
  all_goals exact .of_eq rfl rfl rfl

theorem State.answerCalibration_eases (kind : MessageKind) (code : ReplyCode) (rest : List Byte) :
    s.Eases (s.answerCalibration kind code rest) := .of_eq rfl rfl rfl

theorem State.setCst_eases (x : Cst) : s.Eases (s.setCst x) := .of_eq rfl rfl rfl

theorem State.eraseCompletes_eases (k : Sector) (left : ArrayLeft) : s.Eases (s.eraseCompletes k left) :=
  (State.answerCalibration_eases _ _ _ _).after (s.setCst_eases _)

theorem State.programCompletes_eases (k : Sector) (offset : Nat) (bytes : List Byte) (left : ArrayLeft) :
    s.Eases (s.programCompletes k offset bytes left) :=
  (State.answerCalibration_eases _ _ _ _).after (s.setCst_eases _)

theorem State.lockCompletes_eases (left : ArrayLeft) : s.Eases (s.lockCompletes left) :=
  (State.answerCalibration_eases _ _ _ _).after (s.setCst_eases _)

theorem State.wipeNext_eases (left : ArrayLeft) : s.Eases (s.wipeNext left) := by
  unfold State.wipeNext
  split
  · split
    · exact s.setCst_eases _
    · exact .refl s
  all_goals exact .refl s

theorem State.wipeCompletes_eases : s.Eases s.wipeCompletes := by
  unfold State.wipeCompletes
  split
  · split
    · exact (State.answerCalibration_eases _ _ _ _).after (s.setCst_eases _)
    · exact .refl s
  all_goals exact .refl s

/-! ### The grant engine (R80, R96, R97) -/

theorem State.takeService_eases : s.Eases s.takeService := by
  unfold State.takeService
  split
  next hfree =>
    have hbusy : s.gre.engine ≠ .reevaluation := by rw [hfree]; nofun
    split
    · exact ⟨fun _ g hg => ⟨g, hg, .refl g⟩, fun _ h => .inl h, fun _ => .inl rfl, id, fun _ => id⟩
    · exact ⟨fun _ g hg => ⟨g, hg, .refl g⟩, fun _ h => .inl h, fun _ => .inr ⟨rfl, hbusy⟩, id, fun _ => id⟩
    · exact .refl s
  next => exact .refl s

/-- A request in service leaves no re-evaluation in service (R81). -/
theorem State.engine_of_inService {s : State} {kind : MessageKind} {x : Holder × Request}
    (h : s.inService kind = some x) : s.gre.engine ≠ .reevaluation := by
  intro hbusy
  rw [State.inService, hbusy] at h
  cases h

/-- The engine freed of a request. -/
theorem State.freeEngine_eases (h : s.gre.engine ≠ .reevaluation) : s.Eases s.freeEngine :=
  ⟨fun _ g hg => ⟨g, hg, .refl g⟩, fun _ h => .inl h, fun _ => .inr ⟨rfl, h⟩, id, fun _ => id⟩

theorem State.finishService_eases (h : s.gre.engine ≠ .reevaluation) (p : PortName) (r : Reply) :
    s.Eases (s.finishService p r) := (s.freeEngine_eases h).trans (.of_eq rfl rfl rfl)

theorem State.serveGrantRelease_eases (h : s.gre.engine ≠ .reevaluation) (holder : Holder) (r : Request) :
    s.Eases (s.serveGrantRelease holder r) := by
  have hrefused := s.finishService_eases h holder.port
  unfold State.serveGrantRelease
  split
  · split
    · exact (State.finishService_eases _ (by simpa using h) _ _).after (s.writeGrant_eases _ nofun)
    · exact hrefused _
  · exact hrefused _
  · exact hrefused _

theorem State.useReported_eases (holder : Holder) (r : Request) : s.Eases (s.useReported holder r) := by
  unfold State.useReported
  split
  next k _ _ =>
    cases hg : s.grant k with
    | none => rw [State.takeReport_none hg]; exact .refl s
    | some g =>
      simp only [State.takeReport, hg]
      refine (s.writeGrant_eases k ?_).trans (.of_eq rfl rfl rfl)
      rintro g' ⟨⟩
      exact ⟨g, hg, g.reported_eases _⟩
  · exact .refl s
  · exact .refl s

theorem State.useReported_engine (holder : Holder) (r : Request) :
    (s.useReported holder r).gre.engine = s.gre.engine := by
  unfold State.useReported State.takeReport
  split
  · split <;> simp
  all_goals rfl

theorem State.whileOperating_eases {t : State} (h : s.Eases t) : s.Eases (s.whileOperating t) :=
  State.whileOperating_keeps (.refl s) h

end
end Sys2Proof.Machine
end

section
/-! PROOF. O4: a command raises a granted force only where it completes a re-evaluation, serves a request or may release the
part; every other one eases. -/
namespace Sys2Proof

/-- The commands that may raise a granted force. -/
def Instr.raisesForces : Instr → Bool
  | .reevaluationCompletion | .grantCountdownExpiry _ | .grantRequest => true
  | c => c.isSupervision

end Sys2Proof

namespace Sys2Proof.Machine

/-- Every command but those of `raisesForces` eases. -/
theorem exec_eases (c : Instr) (s : State) (hc : c.raisesForces = false) : LeadsTo s.Eases (exec c s) := by
  have hrefl := State.Eases.refl s
  have hoperating {t : State} (h : s.Eases t) : LeadsTo s.Eases (go (s.whileOperating t)) := leadsTo_operating hrefl h
  have hoccurring {t : State} (occurs : Bool) (h : s.Eases t) : LeadsTo s.Eases (occurring occurs (s.whileOperating t) s) :=
    leadsTo_occurring hrefl (s.whileOperating_eases h)
  cases c with
  | cycleTimerExpiry => exact hoperating s.cycleTimerExpires_eases
  | silenceCountExpiry p => exact hoccurring _ s.cycleTimerExpires_eases
  | transactionCompletion block => exact hoperating (s.transactionCompletes_eases block)
  | estimatePublication => exact hoperating s.publishEstimate_eases
  | coastCountExpiry => exact hoccurring _ s.publishEstimate_eases
  | settlingGoodCountReached => exact hoccurring _ s.publishEstimate_eases
  | delayCountExpiry m => exact hoccurring _ s.publishEstimate_eases
  | softHoldExpiry m => exact hoccurring _ s.publishEstimate_eases
  | blankingExpiry m => exact hoccurring _ s.publishEstimate_eases
  | hardAutoEnd m => exact hoccurring _ s.publishEstimate_eases
  | budgetPublication => exact hoperating s.publishBudget_eases
  | greServiceTake => exact hoperating s.takeService_eases
  | retainedRewriteCompletion => exact hoperating s.rewriteCompletes_eases
  | linePeriodStart l => exact hoperating (.of_eq rfl rfl rfl)
  | linePulseEnd l => exact hoperating (.of_eq rfl rfl rfl)
  | toothCapture w edge => exact hoperating (s.captureTooth_eases w edge)
  | wheelRevalidated w edge => exact hoccurring _ (s.captureTooth_eases w edge)
  | silenceExpiry w => exact hoperating (.of_eq rfl rfl rfl)
  | lockWindowExpiry m => exact hoperating (s.lockWindowExpires_eases m)
  | receiveReadyExpiry p => exact hoperating (.of_eq rfl rfl rfl)
  | frameReceived p => exact hoperating (s.frameEnds_eases p)
  | byteReceived p byte fault => exact hoperating (s.byteArrives_eases p byte fault)
  | linkHold p => exact hoperating (s.linkHeld_eases p)
  | transmitGapExpiry p => exact hoperating (.of_eq rfl rfl rfl)
  | frameSent p => exact hoperating (.of_eq rfl rfl rfl)
  | grantRelease =>
    simp only [exec, execGrantRelease]
    split
    · exact leadsTo_go hrefl
    next h r hin => exact hoperating (s.serveGrantRelease_eases (State.engine_of_inService hin) h r)
  | useReport =>
    simp only [exec, execUseReport]
    split
    · exact leadsTo_go hrefl
    next h r hin =>
      have hengine := State.engine_of_inService hin
      rw [← s.useReported_engine h r] at hengine
      exact hoperating ((s.useReported_eases h r).trans ((State.freeEngine_eases _ hengine).trans (.of_eq rfl rfl rfl)))
  | clampClear p =>
    simp only [exec, execClampClear]
    split
    · exact leadsTo_go hrefl
    · exact hoperating (s.serveClampClear_eases p _)
  | shiftNotice =>
    simp only [exec, execShiftNotice]
    split
    · exact leadsTo_go hrefl
    · exact hoperating s.serveShiftNotice_eases
  | profileSet =>
    simp only [exec, execProfileSet]
    split
    · exact leadsTo_go hrefl
    · exact hoperating (s.profileSetServed_eases _)
  | checkTest p =>
    simp only [exec, execCheckTest]
    split
    · exact leadsTo_go hrefl
    · exact hoperating (s.serveCheckTest_eases p _)
  | calOpen =>
    simp only [exec, execCalOpen]
    split
    · exact leadsTo_go hrefl
    · exact hoperating s.serveOpen_eases
  | calClose => exact leadsTo_serveCalibration_of hrefl s.answerCalibration_eases fun _ => .of_eq rfl rfl rfl
  | calRead => exact leadsTo_serveCalibration_of hrefl s.answerCalibration_eases fun _ => .of_eq rfl rfl rfl
  | calErase => exact leadsTo_serveCalibration_of hrefl s.answerCalibration_eases fun _ => .of_eq rfl rfl rfl
  | calProgram => exact leadsTo_serveCalibration_of hrefl s.answerCalibration_eases fun _ => .of_eq rfl rfl rfl
  | calLock => exact leadsTo_serveCalibration_of hrefl s.answerCalibration_eases fun _ => .of_eq rfl rfl rfl
  | calWipe => exact leadsTo_serveCalibration_of hrefl s.answerCalibration_eases fun _ => .of_eq rfl rfl rfl
  | calEraseCompletion left =>
    simp only [exec, execCalEraseCompletion]
    split
    · exact hoperating (s.eraseCompletes_eases _ left)
    all_goals exact leadsTo_go hrefl
  | calProgramCompletion left =>
    simp only [exec, execCalProgramCompletion]
    split
    · exact hoperating (s.programCompletes_eases _ _ _ left)
    all_goals exact leadsTo_go hrefl
  | calLockCompletion left =>
    simp only [exec, execCalLockCompletion]
    split
    · exact hoperating (s.lockCompletes_eases left)
    all_goals exact leadsTo_go hrefl
  | wipeSectorEraseCompletion left => exact hoperating (s.wipeNext_eases left)
  | calWipeCompletion left =>
    refine hoperating ?_
    split
    · exact (State.wipeCompletes_eases _).after (s.wipeNext_eases left)
    · exact s.wipeCompletes_eases
  | loadCompletion => exact leadsTo_go s.loadCompletes_eases
  | sensorWaitExpiry =>
    refine leadsTo_go ?_
    split
    next h => exact s.endSensorWait_eases h
    next => exact hrefl
  | svcSample high => exact hoperating (s.sampleService_eases high)
  | svcAsserted => exact hoccurring _ (s.sampleService_eases true)
  | svcReleased => exact hoccurring _ (s.sampleService_eases false)
  | _ => cases hc

theorem State.tick_eases (s : State) : s.Eases s.tick := by
  unfold State.tick State.whileOperating
  split
  next hop => exact .of_start hop rfl rfl rfl rfl rfl rfl
  next => exact .refl s

/-- Settles O4: a command that none of the exceptions names eases (`exec_eases`). -/
theorem forcesRiseOnlyWhereGranted : Obligations.ForcesRiseOnlyWhereGranted := by
  intro c s t k hexec hsupervision hreevaluation hcountdown hrequest
  have hc : c.raisesForces = false := by
    cases c with
    | reevaluationCompletion => exact absurd rfl hreevaluation
    | grantCountdownExpiry j => exact absurd rfl (hcountdown j)
    | grantRequest => exact absurd rfl hrequest
    | _ => exact hsupervision
  exact (exec_eases c s hc t hexec).grantedForce_le k

end Sys2Proof.Machine
end

section
/-! SUPPORT. What a command of the supervisor's senses can do to the grants: it eases, as one that holds the part does, or it
releases the part, from the retained record as it found it. -/
namespace Sys2Proof.Machine

/-- What a command of the supervisor's senses leaves (R180 to R186). -/
inductive SupervisorMove (s : State) : State → Prop where
  | eases {t : State} (h : s.Eases t) : SupervisorMove s t
  | releases (x : Sup) (hrecord : x.record = s.sup.record) (hrewrite : x.rewrite = s.sup.rewrite) :
    SupervisorMove s (s.setSup x).release

/-- The supervisor after a sense has changed: its start state and the retained record stand. -/
structure Sup.SensedFrom (x y : Sup) : Prop where
  start : x.start = y.start
  record : x.record = y.record
  rewrite : x.rewrite = y.rewrite

section
variable {s : State}

theorem State.setSup_eases {x : Sup} (h : x.SensedFrom s.sup) : s.Eases (s.setSup x) where
  grant := fun _ g hg => ⟨g, hg, .refl g⟩
  hard := fun _ hhard => .inl hhard
  budget := fun hop => (State.Eases.refl s).budget (by rwa [State.setSup_operating h.start] at hop)
  operating := by rw [State.setSup_operating h.start]; exact id
  record := fun _ ht => Sup.eachContents_of_eq ht (congrArg _ h.record) h.rewrite

/-- A step whose part is held: no budget is in force (R137). -/
theorem State.Eases.of_held {t : State} (hheld : t.operating = false)
    (hgrant : ∀ k, t.grant k = s.grant k) (hstate : ∀ m, (t.monitor m).state = (s.monitor m).state)
    (hrecord : ∀ test, s.sup.eachContents test = true → t.sup.eachContents test = true) : s.Eases t where
  grant := fun k g' hg' => ⟨g', (hgrant k).symm.trans hg', .refl g'⟩
  hard := fun k hhard => .inl ((hstate k.monitor).symm.trans hhard)
  budget := fun hop => by rw [hheld] at hop; cases hop
  operating := fun hop => by rw [hheld] at hop; cases hop
  record := hrecord

/-- R105, R127: a stop leaves the table and the monitors' states. -/
theorem State.stopped_grants (s : State) : (∀ k, s.stopped.grant k = s.grant k)
    ∧ (∀ m, (s.stopped.monitor m).state = (s.monitor m).state)
    ∧ ∀ test, s.sup.eachContents test = true → s.stopped.sup.eachContents test = true := by
  unfold State.stopped
  split
  · exact ⟨fun _ => rfl, fun m => by cases m <;> rfl, fun _ h => Sup.stopped_eachContents h⟩
  · exact ⟨fun _ => rfl, fun _ => rfl, fun _ => id⟩

theorem State.enterReset_eases (s : State) (cause : EntryCause) : s.Eases (s.enterReset cause) := by
  have hstopped := s.stopped_grants
  unfold State.enterReset
  split
  next hop =>
    simp only [State.stopped, hop, if_true] at hstopped
    obtain ⟨hgrant, hstate, hrecord⟩ := hstopped
    exact .of_held rfl hgrant hstate hrecord
  next => exact .refl s

theorem State.enterOff_eases (s : State) : s.Eases s.enterOff := by
  obtain ⟨hgrant, hstate, hrecord⟩ := s.stopped_grants
  exact .of_held rfl hgrant hstate fun test h => Sup.eachContents_of_eq (hrecord test h) rfl rfl

theorem State.retainedPowered_eases (s : State) :
    s.Eases (s.stopped.setSup { s.stopped.sup.retainedPowered with start := .off }) := by
  obtain ⟨hgrant, hstate, -⟩ := s.stopped_grants
  exact .of_held rfl hgrant hstate fun test _ => Sup.eachContents_of_lost rfl rfl

/-- A command that begins with a change of a sense. -/
theorem SupervisorMove.sensed {x : Sup} {t : State} (h : SupervisorMove (s.setSup x) t) (hx : x.SensedFrom s.sup) :
    SupervisorMove s t := by
  cases h with
  | eases h => exact .eases ((State.setSup_eases hx).trans h)
  | releases y hrecord hrewrite => exact .releases (s := s) y (hrecord.trans hx.record) (hrewrite.trans hx.rewrite)

theorem State.holdEnds_move (s : State) : SupervisorMove s s.holdEnds := by
  unfold State.holdEnds
  split
  · exact .releases (s := s) s.sup rfl rfl
  · exact .eases (.refl s)

theorem State.offEnds_move (s : State) : SupervisorMove s s.offEnds := by
  unfold State.offEnds
  split
  · unfold State.holdEnds
    split
    · exact .releases _ rfl rfl
    · exact .eases (.of_held rfl (fun _ => rfl) (fun _ => rfl) fun _ h => Sup.eachContents_of_eq h rfl rfl)
  · exact .eases (.refl s)

theorem State.sampleLoss_move (s : State) (mv : Nat) : SupervisorMove s (s.sampleLoss mv) := by
  obtain ⟨tripped, count, hsample⟩ := s.sup.sampleLoss_eq mv
  have hx : (s.sup.sampleLoss mv).SensedFrom s.sup := by rw [hsample]; exact ⟨rfl, rfl, rfl⟩
  unfold State.sampleLoss
  dsimp only
  refine .sensed ?_ hx
  split_ifs
  · exact .eases (State.enterReset_eases _ _)
  · exact State.holdEnds_move _
  · exact .eases (.refl _)

theorem State.supplySampled_move (s : State) (mv : Nat) : SupervisorMove s (s.supplySampled mv) := by
  obtain ⟨low, count, hsample⟩ := s.sup.sampleWarning_eq mv
  have hmove := (s.sampleWarning mv).sampleLoss_move mv
  unfold State.supplySampled
  by_cases hop : s.operating = true
  · rw [State.sampleWarning, State.whileOperating_of_operating hop] at hmove ⊢
    exact .sensed hmove (by rw [hsample]; exact ⟨rfl, rfl, rfl⟩)
  · rw [State.sampleWarning, State.whileOperating, if_neg hop] at hmove ⊢
    exact hmove

theorem State.retainedTick_move (s : State) (high : Bool) : SupervisorMove s (s.retainedTick high) := by
  have hignition (u : State) : SupervisorMove u (u.ignitionSampled high) := by
    obtain ⟨level, count, hsample⟩ := u.sup.sampleIgnition_eq high
    have hx : (u.sup.sampleIgnition high).SensedFrom u.sup := by rw [hsample]; exact ⟨rfl, rfl, rfl⟩
    unfold State.ignitionSampled
    dsimp only
    refine .sensed ?_ hx
    split_ifs
    · exact .eases (State.enterOff_eases _)
    · exact State.offEnds_move _
    · exact .eases (.refl _)
  unfold State.retainedTick State.outageTicked
  split
  · exact hignition s
  · exact .sensed (hignition _) ⟨rfl, rfl, rfl⟩

/-- Every command of the supervisor's senses eases or releases. -/
theorem exec_supervision_move {c : Instr} (hc : c.isSupervision = true) : LeadsTo (SupervisorMove s) (exec c s) := by
  have hrefl : SupervisorMove s s := .eases (.refl s)
  cases c with
  | supplySample mv => exact leadsTo_go (s.supplySampled_move mv)
  | supplyLossTrip mv => exact leadsTo_occurring hrefl (s.supplySampled_move mv)
  | supplyLossClear mv => exact leadsTo_occurring hrefl (s.supplySampled_move mv)
  | lowSupplySet mv => exact leadsTo_occurring hrefl (s.supplySampled_move mv)
  | lowSupplyClear mv => exact leadsTo_occurring hrefl (s.supplySampled_move mv)
  | rstNAssert => exact leadsTo_go (.sensed (.eases (State.enterReset_eases _ _)) ⟨rfl, rfl, rfl⟩)
  | mainDomainPowerUp => exact leadsTo_go (.sensed (.eases (State.enterReset_eases _ _)) ⟨rfl, rfl, rfl⟩)
  | rstNRelease =>
    refine leadsTo_go ?_
    split
    · exact .sensed (State.holdEnds_move _) ⟨rfl, rfl, rfl⟩
    · exact hrefl
  | retainedMsTick high => exact leadsTo_go (s.retainedTick_move high)
  | ignitionOff => exact leadsTo_occurring hrefl (s.retainedTick_move false)
  | ignitionOn => exact leadsTo_occurring hrefl (s.retainedTick_move true)
  | retainedDomainPowerUp => exact leadsTo_go (.eases s.retainedPowered_eases)
  | _ => cases hc

end
end Sys2Proof.Machine
end

section
/-! PROOF. O8, O9, O10: the laws of the grants. Each speaks of the live grants and tests the retained record alike, and is kept
by every step if easing keeps it and so do a release, a re-evaluation's completion and a request served. -/
namespace Sys2Proof.Machine

/-! ### A request's write to the table (R92 to R94) -/

section
variable (s : State) (k : GrantKey) (amount : Nat)

theorem State.cutDrive_grant (c : Nat) (j : GrantKey) :
    (s.cutDrive c).grant j
      = if j = .eRearDrive ∧ c ≠ 0 then
          (s.grant j).map fun d => (d.lower (d.granted - c)).rederive (s.monitor .rearSpin) .eRearDrive
        else s.grant j := by
  unfold State.cutDrive
  split
  next hzero => rw [if_neg (fun h => h.2 hzero)]
  next hcut =>
    rw [State.changeGrant_grant]
    by_cases hj : j = .eRearDrive
    · subst hj; rw [if_pos rfl, if_pos ⟨rfl, hcut⟩]
    · rw [if_neg hj, if_neg (fun h => hj h.1)]

theorem State.cutDrive_eases (c : Nat) : s.Eases (s.cutDrive c) := by
  unfold State.cutDrive
  split
  · exact .refl s
  · exact s.changeGrant_eases _ fun d => (d.lower_eases _).trans (Grant.rederive_eases _ _ _)

theorem State.grantWritten_grant (j : GrantKey) :
    (s.grantWritten k amount).grant j
      = if j = k then some (s.grantAfter k amount) else (s.cutDrive (s.driveCut k amount)).grant j :=
  State.writeGrant_grant _ _ _ _

theorem State.grantWritten_grantedForce (j : GrantKey) :
    (s.grantWritten k amount).grantedForce j
      = if j = k then some (s.grantedAtArrival k amount) else (s.cutDrive (s.driveCut k amount)).grantedForce j :=
  State.writeGrant_grantedForce _ _ _ _

@[simp] theorem State.cutDrive_slm (c : Nat) : (s.cutDrive c).slm = s.slm := by
  unfold State.cutDrive
  split
  · rfl
  · simp

@[simp] theorem State.cutDrive_besideClamps (c : Nat) : (s.cutDrive c).besideClamps = s.besideClamps := by
  unfold State.cutDrive
  split
  · rfl
  · simp

@[simp] theorem State.grantWritten_slm : (s.grantWritten k amount).slm = s.slm := by simp [State.grantWritten]

/-- R92 to R94: a request served moves the table and the lines alone. -/
theorem State.grantWritten_frame :
    s.grantWritten k amount = { s with
      gre := { s.gre with grants := (s.grantWritten k amount).gre.grants }
      lines := (s.grantWritten k amount).lines } := by
  have hframe := State.eq_of_besideClamps (s := s) (t := s.grantWritten k amount) (by simp [State.grantWritten])
  rw [State.grantWritten_slm, State.grantWritten_flu] at hframe
  exact hframe

/-- R93: what the caps and the room allow. -/
theorem State.grantedAtArrival_le : s.grantedAtArrival k amount ≤ s.target k amount := Nat.min_le_left _ _

theorem State.target_le : s.target k amount ≤ amount := s.capped_le _ _ _

theorem State.requestedGrant_requested : (s.requestedGrant k amount).requested = amount := by
  unfold State.requestedGrant
  split <;> rfl

/-- R92: a request leaves the confirmation of the grant it resizes; one that it creates is CONFIRMED. -/
theorem State.requestedGrant_confirmation {n : Nat} {cause : DoubtCause} {frozen : Nat}
    (h : (s.requestedGrant k amount).confirmation = .unconfirmed n cause frozen) :
    ∃ g, s.grant k = some g ∧ g.confirmation = .unconfirmed n cause frozen := by
  unfold State.requestedGrant at h
  split at h
  · cases h
  next g hg => exact ⟨g, hg, h⟩

theorem Grant.rampBaseAfter_le (g : Grant) (granted : Nat) : g.rampBaseAfter k granted ≤ granted := by
  unfold Grant.rampBaseAfter
  split
  · exact Nat.min_le_right _ _
  · exact le_rfl

end

theorem State.operating_of_sup {s t : State} (h : t.sup = s.sup) : t.operating = s.operating := by
  simp only [State.operating, h]

/-! ### What a law of the grants asks for -/

/-- A law of the live grants, and the test of a record that it answers to: kept by an easing step; met by the grants of a cold
start, and by those of a warm one from a record that passes the test; met by the grants that a re-evaluation settles, and
passed by the copy then taken; and kept by a request's write while no re-evaluation is in service. -/
structure GrantLaw (live : State → Prop) (test : RecordContents → Bool) : Prop where
  eases : ∀ {s t}, s.Eases t → live s → live t
  cold : ∀ s : State, live s.releaseCold
  warm : ∀ (s : State) (c : RecordContents), test c = true → live (s.releaseWarm c)
  settled : ∀ s, s.operating = true → live s → live s.settledGrants.freeEngine.queueStatus.startRewrite
  copied : ∀ s, s.operating = true → s.gre.engine = .free → live s → test s.recordCopy = true
  request : ∀ s k amount, s.operating = true → s.gre.engine ≠ .reevaluation → amount ≤ 20000 → live s →
    live (s.grantWritten k amount)

namespace GrantLaw

variable {live : State → Prop} {test : RecordContents → Bool} (h : GrantLaw live test) {s : State}

/-- The law of a state: its live grants and its retained record. -/
abbrev Holds (live : State → Prop) (test : RecordContents → Bool) (s : State) : Prop :=
  live s ∧ s.sup.eachContents test = true

include h

theorem holds_of_eases {t : State} (heases : s.Eases t) (hs : Holds live test s) : Holds live test t :=
  ⟨h.eases heases hs.1, heases.record test hs.2⟩

/-- R187, R192: a release, cold or warm. -/
theorem release (hs : s.sup.eachContents test = true) : live s.release := by
  unfold State.release
  split
  next c hc => exact h.warm s c (Sup.eachContents_warm hs hc)
  next => exact h.cold s

theorem supervision {c : Instr} (hc : c.isSupervision = true) (hs : Holds live test s) :
    LeadsTo (Holds live test) (exec c s) := by
  intro t ht
  cases exec_supervision_move hc t ht with
  | eases heases => exact h.holds_of_eases heases hs
  | releases x hrecord hrewrite =>
    have hx : x.eachContents test = true := Sup.eachContents_of_eq hs.2 (congrArg _ hrecord) hrewrite
    exact ⟨h.release hx, by rw [State.release_sup]; exact Sup.released_eachContents hx⟩

/-- R90, R191: the grants settled, and the copy of them taken. -/
theorem completeReevaluation (hop : s.operating = true) (hs : Holds live test s) :
    Holds live test s.completeReevaluation := by
  unfold State.completeReevaluation
  split
  · have hlive := h.settled s hop hs.1
    have hsup : s.countDown.reshare.freeEngine.queueStatus.sup = s.sup :=
      (State.senses_eq_iff.mp (by simp : s.countDown.reshare.freeEngine.queueStatus.senses = s.senses)).2.2
    refine ⟨hlive, Sup.rewriting_eachContents (by rw [hsup]; exact hs.2) false ?_⟩
    exact h.copied s.countDown.reshare.freeEngine.queueStatus.startRewrite
      ((State.setSup_operating rfl).trans ((State.operating_of_sup hsup).trans hop)) rfl hlive
  · exact hs

/-- R91 to R95: a request refused eases; one accepted is a write to the table. -/
theorem serveGrantRequest (hop : s.operating = true) (hengine : s.gre.engine ≠ .reevaluation) (holder : Holder)
    (r : Request) (hs : Holds live test s) : Holds live test (s.serveGrantRequest holder r) := by
  have hrefused (reply : Reply) := h.holds_of_eases (s.finishService_eases hengine holder.port reply) hs
  unfold State.serveGrantRequest
  split
  next k _ _ =>
    refine h.holds_of_eases (State.finishService_eases _ ?_ _ _) ⟨h.request s k _ hop hengine (Nat.min_le_left _ _) hs.1, ?_⟩
    · rw [s.grantWritten_frame]; exact hengine
    · rw [s.grantWritten_frame]; exact hs.2
  · exact hrefused _
  · exact hrefused _

theorem exec (c : Instr) (hs : Holds live test s) : LeadsTo (Holds live test) (exec c s) := by
  by_cases hquiet : c.raisesForces = false
  · exact fun t ht => h.holds_of_eases (exec_eases c s hquiet t ht) hs
  by_cases hsupervision : c.isSupervision = true
  · exact h.supervision hsupervision hs
  have hraises : (c.raisesForces && !c.isSupervision) = true := by
    rw [Bool.eq_true_of_not_eq_false hquiet, Bool.eq_false_of_not_eq_true hsupervision]; rfl
  have hreevaluation : Holds live test (s.whileOperating s.completeReevaluation) := by
    unfold State.whileOperating
    split
    next hop => exact h.completeReevaluation hop hs
    next => exact hs
  cases c with
  | reevaluationCompletion => exact leadsTo_go hreevaluation
  | grantCountdownExpiry k => exact leadsTo_occurring hs hreevaluation
  | grantRequest =>
    simp only [Machine.exec, execGrantRequest]
    split
    · exact leadsTo_go hs
    next holder r hin =>
      refine leadsTo_go ?_
      unfold State.whileOperating
      split
      next hop => exact h.serveGrantRequest hop (State.engine_of_inService hin) holder r hs
      next => exact hs
  | _ => cases hraises

/-- Every step keeps the law. -/
theorem step {t : State} (hstep : step s = .next t) (hs : Holds live test s) : Holds live test t := by
  unfold Machine.step at hstep
  split at hstep
  next c rest _ => exact h.exec (s := s.setPending rest) c (h.holds_of_eases (s := s) (.of_eq rfl rfl rfl) hs) t hstep
  next =>
    obtain rfl : s.tick = t := by simpa using hstep
    exact h.holds_of_eases s.tick_eases hs

end GrantLaw
end Sys2Proof.Machine
end

section
/-! PROOF. O8, O9, O10, law by law. -/
namespace Sys2Proof.Machine

/-! ### What a release, a re-evaluation and a copy leave -/

theorem State.releaseCold_grant (s : State) (k : GrantKey) : s.releaseCold.grant k = none := by cases k <;> rfl

theorem State.releaseCold_grantedForce (s : State) (k : GrantKey) : s.releaseCold.grantedForce k = none := by
  rw [State.grantedForce, State.releaseCold_grant]; rfl

theorem State.releaseWarm_monitor (s : State) (c : RecordContents) (m : MonitorName) :
    (s.releaseWarm c).monitor m = (c.monitors.get m).restored := PerMonitor.get_map _ _ _

/-- R126: a warm start finds a monitor in HARD only where the record has it so. -/
theorem RetainedMonitor.restored_hard {r : RetainedMonitor} (h : r.restored.state = .hard) : r.state = .hard := by
  rw [RetainedMonitor.restored_eq] at h
  by_contra hstate
  rw [if_neg hstate] at h
  cases h

/-- R83 to R89: a grant that the settling leaves is one that the countdown left, re-shared. -/
theorem State.settledGrants_some {s : State} {k : GrantKey} {g' : Grant} (h : s.settledGrants.grant k = some g') :
    ∃ g c, s.grant k = some g ∧ g.countDown = some c ∧ s.countDown.grant k = some c
      ∧ g' = s.countDown.reshared k c := by
  rw [State.settledGrants, State.reshare_grant] at h
  obtain ⟨c, hc, rfl⟩ := Option.map_eq_some_iff.mp h
  have hcount := hc
  rw [State.countDown_grant] at hcount
  obtain ⟨g, hg, hleft⟩ := Option.bind_eq_some_iff.mp hcount
  exact ⟨g, c, hg, hleft, hc, rfl⟩

theorem State.requestedForce_of_some {s : State} {k : GrantKey} {g : Grant} (h : s.grant k = some g) :
    s.requestedForce k = g.requested := by simp [State.requestedForce, h]

/-- R88, R89: the settled grant's force lies within its share. -/
theorem State.settledGrants_le (s : State) (k : GrantKey) :
    (s.settledGrants.grantedForce k).getD 0 ≤ s.countDown.share k := by
  cases h : s.settledGrants.grant k with
  | none => simp [State.grantedForce, h]
  | some g' =>
    obtain ⟨g, c, -, -, -, rfl⟩ := State.settledGrants_some h
    rw [State.grantedForce_of_some h]
    exact State.capped_le _ _ _ _

/-- R98: under a monitor in HARD the settled grant holds nothing. -/
theorem State.settledGrants_hard {s : State} {k : GrantKey} (hhard : (s.monitor k.monitor).state = .hard) :
    (s.settledGrants.grantedForce k).getD 0 = 0 := by
  cases h : s.settledGrants.grant k with
  | none => simp [State.grantedForce, h]
  | some g' =>
    obtain ⟨g, c, -, -, -, rfl⟩ := State.settledGrants_some h
    rw [State.grantedForce_of_some h]
    exact State.capped_hard _ _ _ _ (by rwa [State.monitor, State.countDown_slm])

theorem State.recordCopy_monitors (s : State) (m : MonitorName) :
    (s.recordCopy.monitors.get m).state = (s.monitor m).state :=
  congrArg RetainedMonitor.state (PerMonitor.get_map _ _ _)

/-- R191: the copy carries the granted forces. -/
theorem State.recordCopy_granted (s : State) (k : GrantKey) :
    (s.recordCopy.grants.get k).map RetainedGrant.granted = s.grantedForce k := by
  rw [State.recordCopy_grants, Option.map_map]; rfl

/-! ### The bounds of a grant (R77, R78, R88) -/

theorem Grant.countDown_bounded {g c : Grant} (h : g.countDown = some c) (hg : g.bounded = true) :
    c.bounded = true := by
  obtain ⟨hgranted, hrequested, hramp, hfrozen⟩ := g.bounded_iff.mp hg
  unfold Grant.countDown at h
  split at h
  · cases h; exact hg
  next n cause frozen hconf =>
    obtain ⟨-, hhi, hle⟩ := hfrozen n cause frozen hconf
    split at h
    next => cases h
    next hn =>
      cases h
      refine (Grant.bounded_iff _).mpr ⟨hgranted, hrequested, hramp, ?_⟩
      rintro n' cause' frozen' ⟨⟩
      exact ⟨by omega, by omega, hle⟩

theorem State.reshared_bounded {s : State} {k : GrantKey} {c : Grant} (hshare : s.share k ≤ c.requested)
    (hc : c.bounded = true) : (s.reshared k c).bounded = true := by
  obtain ⟨-, hrequested, -, hfrozen⟩ := c.bounded_iff.mp hc
  refine (Grant.bounded_iff _).mpr ⟨(s.capped_le _ _ _).trans hshare, hrequested, le_rfl, fun n cause frozen hconf => ?_⟩
  obtain ⟨hlo, hhi, -⟩ := hfrozen n cause frozen hconf
  exact ⟨hlo, hhi, s.capped_frozen k c _ n cause frozen hconf⟩

theorem State.grantAfter_bounded {s : State} {k : GrantKey} {amount : Nat} (hamount : amount ≤ 20000)
    (hs : ∀ g, s.grant k = some g → g.bounded = true) : (s.grantAfter k amount).bounded = true := by
  have hrequested : (s.grantAfter k amount).requested = amount := s.requestedGrant_requested k amount
  refine (Grant.bounded_iff _).mpr ⟨?_, ?_, Grant.rampBaseAfter_le _ _ _, fun n cause frozen hconf => ?_⟩
  · rw [hrequested]; exact (s.grantedAtArrival_le k amount).trans (s.target_le k amount)
  · rw [hrequested]; exact hamount
  · obtain ⟨g, hg, hgconf⟩ := s.requestedGrant_confirmation k amount hconf
    obtain ⟨-, -, -, hfrozen⟩ := g.bounded_iff.mp (hs g hg)
    obtain ⟨hlo, hhi, -⟩ := hfrozen n cause frozen hgconf
    exact ⟨hlo, hhi, (s.grantedAtArrival_le k amount).trans (s.capped_frozen k _ amount n cause frozen hconf)⟩

theorem RetainedGrant.carried_bounded {r : RetainedGrant} (hgranted : r.granted ≤ r.requested)
    (hrequested : r.requested ≤ 20000) (soft : Bool) : (r.carried soft).bounded = true := by
  refine (Grant.bounded_iff _).mpr ⟨hgranted, hrequested, le_rfl, ?_⟩
  rintro n cause frozen ⟨⟩
  exact ⟨by decide, le_rfl, le_rfl⟩

theorem grantsBounded_law :
    GrantLaw (fun s => ∀ k g, s.grant k = some g → g.bounded = true) RecordContents.grantsBounded where
  eases := State.Eases.bounded
  cold := fun s k g hg => by rw [State.releaseCold_grant] at hg; cases hg
  warm := fun s c hc k g hg => by
    rw [State.releaseWarm_grant] at hg
    obtain ⟨r, hr, rfl⟩ := Option.map_eq_some_iff.mp hg
    obtain ⟨hgranted, hrequested⟩ := c.grantsBounded_iff.mp hc k r hr
    exact RetainedGrant.carried_bounded hgranted hrequested _
  settled := fun s _ hs k g' hg' => by
    obtain ⟨g, c, hg, hleft, hc, rfl⟩ := State.settledGrants_some hg'
    refine State.reshared_bounded ?_ (Grant.countDown_bounded hleft (hs k g hg))
    exact (s.countDown.share_le k).trans_eq (State.requestedForce_of_some hc)
  copied := fun s _ _ hs => s.recordCopy.grantsBounded_iff.mpr fun k r hr => by
    rw [State.recordCopy_grants] at hr
    obtain ⟨g, hg, rfl⟩ := Option.map_eq_some_iff.mp hr
    obtain ⟨hgranted, hrequested, -⟩ := g.bounded_iff.mp (hs k g hg)
    exact ⟨hgranted, hrequested⟩
  request := fun s k amount _ _ hamount hs j g hg => by
    rw [State.grantWritten_grant] at hg
    split at hg
    · cases hg; exact State.grantAfter_bounded hamount (hs k)
    · exact (s.cutDrive_eases _).bounded hs j g hg

/-- Settles O8: the bounds are a law of the grants (`grantsBounded_law`). -/
theorem grantsBoundedKept : Obligations.GrantsBoundedKept := fun _ _ hstep hs =>
  State.grantsBounded_iff.mpr (grantsBounded_law.step hstep (State.grantsBounded_iff.mp hs))

/-! ### HARD (R98) -/

theorem hardHoldsNothing_law :
    GrantLaw (fun s => ∀ k, (s.monitor k.monitor).state = .hard → (s.grantedForce k).getD 0 = 0)
      RecordContents.hardHoldsNothing where
  eases := State.Eases.hardHolds
  cold := fun s k _ => by rw [State.releaseCold_grantedForce]; rfl
  warm := fun s c hc k hhard => by
    rw [State.releaseWarm_monitor] at hhard
    rw [State.releaseWarm_grantedForce]
    exact c.hardHoldsNothing_iff.mp hc k (RetainedMonitor.restored_hard hhard)
  settled := fun s _ _ k hhard => by
    have hslm : s.settledGrants.slm = s.slm := by simp [State.settledGrants]
    exact State.settledGrants_hard (by rw [State.monitor, ← hslm]; exact hhard)
  copied := fun s _ _ hs => s.recordCopy.hardHoldsNothing_iff.mpr fun k hhard => by
    rw [State.recordCopy_monitors] at hhard
    rw [State.recordCopy_granted]
    exact hs k hhard
  request := fun s k amount _ _ _ hs j hhard => by
    rw [State.monitor, State.grantWritten_slm] at hhard
    rw [State.grantWritten_grantedForce]
    split
    next hj =>
      subst hj
      have htarget : s.target j amount = 0 := s.capped_hard j _ _ hhard
      exact Nat.le_zero.mp ((s.grantedAtArrival_le j amount).trans_eq htarget)
    next =>
      exact Nat.le_zero.mp (((s.cutDrive_eases _).grantedForce_le j).trans_eq (hs j hhard))

/-- Settles O10: a monitor's affected grants at 0 are a law of the grants (`hardHoldsNothing_law`). -/
theorem hardClampKept : Obligations.HardClampKept := fun _ _ hstep hs =>
  State.hardHoldsNothing_iff.mpr (hardHoldsNothing_law.step hstep (State.hardHoldsNothing_iff.mp hs))

/-! ### The budget in force (R79) -/

section
variable (s : State) (k : GrantKey) (amount : Nat)

/-- The grants of a key's wheel: the key's own and the others. -/
theorem State.grantedOn_eq : s.grantedOn k.wheel = (s.grantedForce k).getD 0 + s.othersGranted k := by
  cases k <;> simp [State.grantedOn, State.othersGranted, wheelSum, allKeys, GrantKey.wheel] <;> omega

theorem State.driveCut_le : s.driveCut k amount ≤ (s.grantedForce .eRearDrive).getD 0 := by
  unfold State.driveCut
  split
  · exact Nat.min_le_right _ _
  · exact Nat.zero_le _

/-- R94: only a rear brake request cuts the drive grant. -/
theorem State.cutsDrive_of_driveCut (h : s.driveCut k amount ≠ 0) : k = .eRearBrake ∨ k = .bRearBrake := by
  unfold State.driveCut at h
  split at h
  next hcuts => simpa [cutsDrive] using hcuts.2
  next => exact absurd rfl h

theorem State.cutDrive_grantedForce (c : Nat) (j : GrantKey) :
    ((s.cutDrive c).grantedForce j).getD 0
      = if j = .eRearDrive then (s.grantedForce j).getD 0 - c else (s.grantedForce j).getD 0 := by
  rw [State.grantedForce, State.cutDrive_grant, State.grantedForce]
  by_cases hj : j = .eRearDrive
  · subst hj
    by_cases hc : c = 0
    · simp [hc]
    · cases s.grant .eRearDrive <;> simp [hc, Grant.lower, Grant.rederive]
  · simp [hj]

/-- R94: what the drive grant loses, the others on the key's wheel lose. -/
theorem State.othersGranted_cutDrive :
    (s.cutDrive (s.driveCut k amount)).othersGranted k + s.driveCut k amount = s.othersGranted k := by
  have hle := s.driveCut_le k amount
  by_cases hcut : s.driveCut k amount = 0
  · rw [hcut]; rfl
  · have hforce := s.cutDrive_grantedForce (s.driveCut k amount)
    rcases s.cutsDrive_of_driveCut k amount hcut with rfl | rfl
    all_goals
      simp [State.othersGranted, allKeys, GrantKey.wheel, hforce]
      omega

/-- R93: a request's force fits in the room, the drive grant's cut included. -/
theorem State.grantWritten_fitsBudget (hs : s.FitsBudget) : (s.grantWritten k amount).FitsBudget := by
  intro w
  have hbudget : (s.grantWritten k amount).gre.budget = s.gre.budget := by rw [s.grantWritten_frame]
  have hother (j : GrantKey) (hj : j ≠ k) : (s.grantWritten k amount).grantedForce j
      = (s.cutDrive (s.driveCut k amount)).grantedForce j := by
    rw [State.grantWritten_grantedForce, if_neg hj]
  rw [hbudget]
  by_cases hw : w = k.wheel
  · subst hw
    have hothers : (s.grantWritten k amount).othersGranted k
        = (s.cutDrive (s.driveCut k amount)).othersGranted k := by
      unfold State.othersGranted
      refine congrArg List.sum (List.map_congr_left fun j hj => ?_)
      simp only [List.mem_filter, Bool.and_eq_true, bne_iff_ne] at hj
      rw [hother j hj.2.1]
    have hcut := s.othersGranted_cutDrive k amount
    have hroom : s.grantedAtArrival k amount ≤ s.room k + s.driveCut k amount := Nat.min_le_right _ _
    have hown := s.grantedOn_eq k
    have hfits := hs k.wheel
    rw [State.grantedOn_eq, hothers, State.grantWritten_grantedForce, if_pos rfl, Option.getD_some]
    unfold State.room at hroom
    omega
  · refine Nat.le_trans ?_ (hs w)
    refine List.sum_le_sum fun j hj => ?_
    have hj : j.wheel = w := by simpa using (List.mem_filter.mp hj).2
    rw [hother j (by rintro rfl; exact hw hj.symm)]
    exact (s.cutDrive_eases _).grantedForce_le j

end

theorem withinBudget_law :
    GrantLaw (fun s => s.operating = true → s.gre.engine = .reevaluation ∨ s.FitsBudget) RecordContents.withinBudget where
  eases := State.Eases.fitsBudget
  cold := fun s _ => .inr fun w => by
    have hnone (k : GrantKey) : (s.releaseCold.grantedForce k).getD 0 = 0 := by rw [State.releaseCold_grantedForce]; rfl
    simp [State.grantedOn, wheelSum, hnone]
  warm := fun s c hc _ => .inr fun w => by
    have hforce (k : GrantKey) := s.releaseWarm_grantedForce c k
    simp only [State.grantedOn, hforce]
    exact c.withinBudget_iff.mp hc w
  settled := fun s _ _ _ => .inr fun w => by
    have hbudget : s.settledGrants.gre.budget = s.countDown.gre.budget := by
      rw [State.settledGrants, State.reshare_gre]
    refine (wheelSum_mono s.settledGrants_le w).trans ((s.countDown.shares_le w).trans_eq ?_)
    exact congrArg (fun x : BudgetInForce => x.force.get w) hbudget.symm
  copied := fun s hop hfree hs => s.recordCopy.withinBudget_iff.mpr fun w => by
    have hforce (k : GrantKey) := s.recordCopy_granted k
    simp only [RecordContents.grantedOn, hforce]
    exact (hs hop).resolve_left (by rw [hfree]; nofun) w
  request := fun s k amount hop hengine _ hs _ =>
    .inr (s.grantWritten_fitsBudget k amount ((hs hop).resolve_left hengine))

/-- Settles O9: the fit in the budget in force is a law of the grants (`withinBudget_law`). -/
theorem budgetLawKept : Obligations.BudgetLawKept := fun _ _ hstep hs =>
  State.withinBudget_iff.mpr (withinBudget_law.step hstep (State.withinBudget_iff.mp hs))

end Sys2Proof.Machine
end

section
/-! PROOF. O33, O39, O40: what the free engine takes, and the grant requests it serves and refuses. -/
namespace Sys2Proof.Machine

/-! ### The service arbiter (R80, R83) -/

theorem exec_greServiceTake {s : State} (hop : s.operating = true) :
    exec .greServiceTake s = .next s.takeService := by
  simp only [exec, execGreServiceTake, State.whileOperating_of_operating hop, go]

/-- R80: the request served next is URGENT where the other is not, or the pointer's among equals. -/
theorem State.nextHolder_eq {s : State} {h : Holder} {r : Request} (hr : s.waitingRequest h = some r)
    (hfirst : ∀ r', s.waitingRequest h.other = some r' →
      (r.urgent = true ∧ r'.urgent = false) ∨ (r.urgent = r'.urgent ∧ s.gre.pointer = h)) :
    s.nextHolder = some h := by
  unfold State.nextHolder
  cases hother : s.waitingRequest h.other with
  | none => cases h <;> simp only [Holder.other] at hother <;> simp only [hr, hother]
  | some r' =>
    rcases hfirst r' hother with ⟨hurgent, hplain⟩ | ⟨hequal, hpointer⟩
    · cases h <;> simp only [Holder.other] at hother <;> simp [hr, hother, hurgent, hplain]
    · cases h <;> simp only [Holder.other] at hother <;> simp [hr, hother, hequal, hpointer]

/-- Settles O33: what waits decides what `State.takeService` takes. -/
theorem serviceTaken : Obligations.ServiceTaken := by
  intro s hop hfree
  refine ⟨fun q hq => ?_, fun h r hwaiting hr hfirst => ?_⟩
  · rw [exec_greServiceTake hop]
    simp only [State.takeService, hfree, hq, if_true]
    rfl
  · rw [exec_greServiceTake hop]
    simp only [State.takeService, hfree, hwaiting, State.nextHolder_eq hr hfirst, if_true]

/-! ### Refusals (R91, R95, R96) -/

section
variable {s : State} {h : Holder} {r : Request}

theorem exec_grantRequest (hop : s.operating = true) (hin : s.inService .grantRequest = some (h, r)) :
    exec .grantRequest s = .next (s.serveGrantRequest h r) := by
  simp only [exec, execGrantRequest, hin, State.whileOperating_of_operating hop, go]

/-- R91: the order of the checks. -/
theorem State.grantRefusal_eq_some {named : NamedKey} {good : Bool} {code : ReplyCode}
    (hcode : (s.running = false ∧ code = .notReady)
      ∨ (s.running = true ∧ (named = .bad ∨ good = false) ∧ code = .badField)
      ∨ (s.running = true ∧ named = .foreign ∧ good = true ∧ code = .notPermitted)) :
    s.grantRefusal named good = some code := by
  unfold State.grantRefusal
  rcases hcode with ⟨hrun, rfl⟩ | ⟨hrun, hbad, rfl⟩ | ⟨hrun, rfl, rfl, rfl⟩
  · simp [hrun]
  · rcases hbad with rfl | rfl <;> simp [hrun]
  · simp [hrun]

theorem State.serveGrantRequest_refused {code : ReplyCode}
    (hcode : s.grantRefusal (r.named h) (r.byte 4 ≤ 1) = some code) :
    s.serveGrantRequest h r = s.finishService h.port ⟨.grantRequest, code, s.grantRest 0⟩ := by
  simp only [State.serveGrantRequest, hcode]

theorem State.serveGrantRelease_refused {code : ReplyCode} (hcode : s.grantRefusal (r.named h) true = some code) :
    s.serveGrantRelease h r = s.finishService h.port ⟨.grantRelease, code, []⟩ := by
  simp only [State.serveGrantRelease, hcode]

theorem State.serveGrantRelease_notHeld {k : GrantKey} (hrun : s.running = true) (hkey : r.named h = .key k)
    (hnone : s.grant k = none) :
    s.serveGrantRelease h r = s.finishService h.port ⟨.grantRelease, .notHeld, []⟩ := by
  simp only [State.serveGrantRelease, hkey, State.grantRefusal_key hrun, hnone]

theorem exec_grantRelease_eq (hop : s.operating = true) (hin : s.inService .grantRelease = some (h, r)) :
    exec .grantRelease s = .next (s.serveGrantRelease h r) := by
  simp only [exec, execGrantRelease, hin, State.whileOperating_of_operating hop, go]

end

/-- Settles O40: each refusal is that of the checks (`State.grantRefusal_eq_some`), or of a key without a grant. -/
theorem grantRequestsRefused : Obligations.GrantRequestsRefused := by
  refine ⟨fun s h r hop hin code hcode => ?_, fun s h r hop hin code hcode => ?_⟩
  · have hrefusal : s.grantRefusal (r.named h) (r.byte 4 ≤ 1) = some code :=
      State.grantRefusal_eq_some (by simpa using hcode)
    rw [exec_grantRequest hop hin, State.serveGrantRequest_refused hrefusal]
    rfl
  · rw [exec_grantRelease_eq hop hin]
    rcases hcode with hcode | hcode | ⟨hrun, hforeign, rfl⟩ | ⟨hrun, ⟨k, hkey, hnone⟩, rfl⟩
    · rw [State.serveGrantRelease_refused (State.grantRefusal_eq_some (.inl hcode))]
      rfl
    · obtain ⟨hrun, hbad, rfl⟩ := hcode
      rw [State.serveGrantRelease_refused (State.grantRefusal_eq_some (.inr (.inl ⟨hrun, .inl hbad, rfl⟩)))]
      rfl
    · rw [State.serveGrantRelease_refused (State.grantRefusal_eq_some (.inr (.inr ⟨hrun, hforeign, rfl, rfl⟩)))]
      rfl
    · rw [State.serveGrantRelease_notHeld hrun hkey hnone]
      rfl

end Sys2Proof.Machine
end

section
/-! PROOF. O39: a GRANT_REQUEST served: its target and room, the grant it writes, the drive grant it cuts. -/
namespace Sys2Proof.Machine

section
variable {s : State} {k : GrantKey} {amount : Nat}

/-! ### The target and the room (R88, R93) -/

theorem State.requestedGrant_none (h : s.grant k = none) : s.requestedGrant k amount = .created amount := by
  simp only [State.requestedGrant, h]

theorem State.requestedGrant_some {g : Grant} (h : s.grant k = some g) :
    s.requestedGrant k amount = { g with requested := amount } := by simp only [State.requestedGrant, h]

/-- R93: the target is the amount under the three caps, a grant not yet there CONFIRMED and at ramp base 0. -/
theorem State.target_eq {clamp frozen target : Nat} (hclamp : clamp = (s.monitor k.monitor).clampCap k amount)
    (hfrozen : frozen = match (s.grant k).map Grant.confirmation with
      | some (.unconfirmed _ _ ceiling) => min clamp ceiling
      | _ => clamp)
    (htarget : target = if k.direction = .drive ∨ (s.grant k).any Grant.recovering = true then
        min frozen (((s.grant k).map Grant.rampBase).getD 0 + max 1 (min 20000 (s.params.s1.get s.profile).ramp))
      else frozen) : s.target k amount = target := by
  rw [State.target, State.capped_eq, ← hclamp, htarget]
  cases hg : s.grant k with
  | none =>
    have hcap : frozen = (Grant.created amount).confirmation.frozenCap clamp := by rw [hfrozen, hg]; rfl
    rw [State.requestedGrant_none hg, ← hcap]
    rfl
  | some g =>
    have hcap : frozen = g.confirmation.frozenCap clamp := by
      rw [hfrozen, hg, Option.map_some]
      cases g.confirmation <;> rfl
    rw [State.requestedGrant_some hg, hcap]
    rfl

/-- R94: the cut, by its target and room. -/
theorem State.driveCut_eq {target room : Nat} (htarget : s.target k amount = target) (hroom : s.room k = room) :
    s.driveCut k amount = if s.gre.policy = .brakeFirst ∧ (k = .eRearBrake ∨ k = .bRearBrake) then
      min (target - room) ((s.grantedForce .eRearDrive).getD 0) else 0 := by
  simp only [State.driveCut, cutsDrive, Bool.or_eq_true, beq_iff_eq, htarget, hroom]

/-! ### The grant written (R78, R92) -/

theorem Grant.rampBaseAfter_eq (g : Grant) (k : GrantKey) (granted : Nat) :
    g.rampBaseAfter k granted
      = if k.direction = .drive ∨ g.recovering = true then min g.rampBase granted else granted := by
  simp only [Grant.rampBaseAfter, GrantKey.paced_iff]

theorem State.grantAfter_created (h : s.grant k = none) :
    s.grantAfter k amount = { Grant.created amount with
      granted := s.grantedAtArrival k amount
      rampBase := if k.direction = .drive then 0 else s.grantedAtArrival k amount
      state := deriveState (s.monitor k.monitor) k amount (s.grantedAtArrival k amount) } := by
  unfold State.grantAfter
  simp only [State.requestedGrant_none h, Grant.rampBaseAfter_eq]
  simp [Grant.created, Grant.rederive]

theorem State.grantAfter_resized {old : Grant} (h : s.grant k = some old) :
    s.grantAfter k amount = { old with
      requested := amount
      granted := s.grantedAtArrival k amount
      rampBase := if k.direction = .drive ∨ old.recovering = true then min old.rampBase (s.grantedAtArrival k amount)
        else s.grantedAtArrival k amount
      state := deriveState (s.monitor k.monitor) k amount (s.grantedAtArrival k amount) } := by
  unfold State.grantAfter
  simp only [State.requestedGrant_some h, Grant.rampBaseAfter_eq]
  rfl

/-- R78, R94: the drive grant after the cut. -/
theorem State.cutDrive_drive (c : Nat) :
    (s.cutDrive c).grant .eRearDrive = (s.grant .eRearDrive).map fun d =>
      if c = 0 then d
      else { d with
        granted := d.granted - c, rampBase := min d.rampBase (d.granted - c)
        state := deriveState (s.monitor .rearSpin) .eRearDrive d.requested (d.granted - c) } := by
  rw [State.cutDrive_grant]
  by_cases hc : c = 0
  · simp [hc]
  · rw [if_pos ⟨rfl, hc⟩]
    refine congrArg (fun f => (s.grant .eRearDrive).map f) (funext fun d => ?_)
    have hmin : min d.granted (d.granted - c) = d.granted - c := Nat.min_eq_right (Nat.sub_le _ _)
    rw [if_neg hc, Grant.rederive, Grant.lower, hmin]

/-- R91 to R95: a request that passes its checks. -/
theorem exec_grantRequest_accepted {h : Holder} {r : Request} (hrun : s.running = true)
    (hin : s.inService .grantRequest = some (h, r)) (hkey : r.named h = .key k) (hurgency : r.byte 4 ≤ 1) :
    exec .grantRequest s = .next ((s.grantWritten k r.force).finishService h.port
      ⟨.grantRequest, (s.grantAfter k r.force).state.replyCode, s.grantRest (s.grantAfter k r.force).granted⟩) := by
  rw [exec_grantRequest (State.operating_of_running hrun) hin]
  simp only [State.serveGrantRequest, hkey, hurgency, decide_true, State.grantRefusal_key hrun]

end

/-- Settles O39: the target and the cut by `State.target_eq` and `State.driveCut_eq`, the grant by whether there was one, and
the rest by the frame of the write. -/
theorem grantRequestServed : Obligations.GrantRequestServed := by
  intro s h r k clamp frozen target room hrun hin hkey hurgency hclamp hfrozen htarget hroom
  have htarget : s.target k r.force = target :=
    State.target_eq (hclamp.trans (Monitor.clampCap_eq _ _ _).symm) hfrozen htarget
  have hroom : s.room k = room := hroom.symm
  have hgrant := s.grantWritten_grant k r.force
  refine ⟨_, s.grantAfter k r.force, s.driveCut k r.force, exec_grantRequest_accepted hrun hin hkey hurgency,
    (hgrant k).trans (if_pos rfl), State.driveCut_eq htarget hroom, s.requestedGrant_requested k r.force, ?_, rfl,
    fun hnone => ?_, fun old hold => ?_, fun j hj hdrive => ?_, fun hdrive => ?_, ?_, ?_⟩
  · rw [← htarget, ← hroom]; rfl
  · rw [State.grantAfter_created hnone]
    exact ⟨rfl, rfl, rfl, rfl, rfl⟩
  · rw [State.grantAfter_resized hold]
    exact ⟨rfl, rfl, rfl, rfl, rfl⟩
  · refine (hgrant j).trans ((if_neg hj).trans ?_)
    rw [State.cutDrive_grant, if_neg (fun h => hdrive h.1)]
  · refine (hgrant .eRearDrive).trans ((if_neg (Ne.symm hdrive)).trans ?_)
    exact State.cutDrive_drive _
  · rw [State.finishService, State.answer_port, if_pos rfl, s.grantWritten_frame]
    rfl
  · rw [s.grantWritten_frame]; rfl

end Sys2Proof.Machine
end

section
/-! PROOF. O29: the monitors' two requests, CLAMP_CLEAR and SHIFT_NOTICE. -/
namespace Sys2Proof.Machine

section
variable {s : State} {p : PortName} {r : Request}

theorem exec_clampClear (hop : s.operating = true) (hr : s.served p .clampClear = some r) :
    exec (.clampClear p) s = .next (s.serveClampClear p r) := by
  simp only [exec, execClampClear, hr, State.whileOperating_of_operating hop, go]

theorem exec_shiftNotice (hop : s.operating = true) (hr : s.served .e .shiftNotice = some r) :
    exec .shiftNotice s = .next s.serveShiftNotice := by
  simp only [exec, execShiftNotice, hr, State.whileOperating_of_operating hop, go]

/-- R107: inside the soft thresholds. -/
theorem State.insideSoft_iff (x : Int) :
    s.insideSoft x = true ↔ s.params.softLock s.profile ≤ x ∧ x ≤ s.params.softSpin s.profile := by
  simp only [State.insideSoft, Bool.and_eq_true, decide_eq_true_eq]

/-- R123: the first check that fails, none where a CLAMP_CLEAR is accepted. -/
def State.clampClearRefusal (s : State) (p : PortName) (r : Request) : Option ReplyCode :=
  if s.running = false then some .notReady
  else match monitorOfCode (r.byte 0) with
    | none => some .badField
    | some m =>
      if m.clearedFrom p = false then some .notPermitted
      else if (s.monitor m).state ≠ .hard then some .notHeld
      else match (s.monitor m).lastSlip with
        | none => some .slipPresent
        | some x => if s.params.softLock s.profile ≤ x ∧ x ≤ s.params.softSpin s.profile then none
            else some .slipPresent

theorem State.clampClearCode_eq : s.clampClearCode p r = (s.clampClearRefusal p r).getD .ok := by
  unfold State.clampClearCode State.clampClearRefusal
  by_cases hrun : s.running = true
  · simp only [hrun, Bool.not_true, Bool.false_eq_true, Bool.true_eq_false, if_false]
    cases monitorOfCode (r.byte 0) with
    | none => rfl
    | some m =>
      by_cases hright : m.clearedFrom p = true
      · by_cases hhard : (s.monitor m).state = .hard
        · simp only [hright, hhard, State.insideSoft_iff, Bool.not_true, Bool.false_eq_true, Bool.true_eq_false,
            if_false, ne_eq, not_true_eq_false]
          cases (s.monitor m).lastSlip with
          | none => rfl
          | some x => dsimp only; split <;> rfl
        · simp [hright, hhard]
      · simp [hright]
  · simp [hrun]

theorem State.clampClearRefusal_ne_ok : s.clampClearRefusal p r ≠ some .ok := by
  unfold State.clampClearRefusal
  split
  · nofun
  · split
    · nofun
    · split
      · nofun
      · split
        · nofun
        · split
          · nofun
          · split <;> nofun

/-- R123: a refusal is answered and changes nothing else. -/
theorem State.serveClampClear_refused {code : ReplyCode} (h : s.clampClearRefusal p r = some code) :
    s.serveClampClear p r = s.setPort p ((s.port p).answer ⟨.clampClear, code, []⟩) := by
  have hcode : s.clampClearCode p r = code := by rw [State.clampClearCode_eq, h, Option.getD_some]
  have hrefused : code ≠ .ok := by rintro rfl; exact State.clampClearRefusal_ne_ok h
  rw [State.serveClampClear, hcode, if_neg hrefused]
  rfl

/-- R123: a CLAMP_CLEAR that passes every check clears the clamp. -/
theorem State.serveClampClear_accepted {m : MonitorName} {x : Int} (hrun : s.running = true)
    (hm : monitorOfCode (r.byte 0) = some m) (hright : m.clearedFrom p = true)
    (hhard : (s.monitor m).state = .hard) (hslip : (s.monitor m).lastSlip = some x) (hinside : s.insideSoft x = true) :
    s.serveClampClear p r = (s.blankAfterClamp m).answer p ⟨.clampClear, .ok, []⟩ := by
  have hcode : s.clampClearCode p r = .ok := by
    simp [State.clampClearCode, hrun, hm, hright, hhard, hslip, hinside]
  rw [State.serveClampClear, if_pos hcode]
  simp only [State.clampCleared, hm]
  rfl

/-- R99, R122: what the end of a clamp leaves. -/
theorem State.endClamp_frame (s : State) (m : MonitorName) (x : Monitor) :
    s.endClamp m x
      = { s with slm := (s.endClamp m x).slm, gre := { s.gre with grants := (s.endClamp m x).gre.grants } } := by
  have hframe := State.eq_of_besideClamps (s.endClamp_besideClamps m x)
  rw [State.endClamp_flu, State.endClamp_lines] at hframe
  exact hframe

theorem State.endClamp_monitor_other (s : State) {m j : MonitorName} (x : Monitor) (hj : j ≠ m) :
    (s.endClamp m x).monitor j = s.monitor j := by
  rw [State.monitor, State.endClamp_slm, PerMonitor.get_set_other _ _ _ _ hj]; rfl

end

/-- Settles O29: the checks of a CLAMP_CLEAR are `State.clampClearRefusal`, its effect the end of a clamp; a SHIFT_NOTICE
moves REAR_SPIN alone. -/
theorem monitorRequests : Obligations.MonitorRequests := by
  refine ⟨fun s p r m x hrun hr hm hright hhard hslip hinside => ?_, fun s p r code hop hr hcode c hc => ?_,
    fun s r hrun hr => ?_, fun s r hop hrun hr => ?_⟩
  · have hserved := State.serveClampClear_accepted (p := p) hrun hm hright hhard hslip hinside
    refine ⟨_, (exec_clampClear (State.operating_of_running hrun) hr).trans (congrArg _ hserved), ?_, ?_, ?_,
      fun j hj => State.endClamp_monitor_other s _ hj, fun k hk => State.endClamp_recovers _ ((mem_monitorKeys m k).mp hk), ?_⟩
    · rw [State.answer_port, if_pos rfl]
      exact congrArg (fun x : PerPort Port => (x.get p).answer _) (s.endClamp_ports m _)
    · exact congrArg Monitor.state (State.endClamp_monitor _)
    · exact congrArg Monitor.count (State.endClamp_monitor _)
    · rw [State.blankAfterClamp, s.endClamp_frame]; rfl
  · rw [exec_clampClear hop hr, State.serveClampClear_refused (code := c) (by rw [← hc, hcode]; rfl)]
  · rw [exec_shiftNotice (State.operating_of_running hrun) hr, State.serveShiftNotice, if_pos hrun]
    unfold State.shiftNoticed
    cases (s.monitor .rearSpin).state <;> rfl
  · rw [exec_shiftNotice hop hr, State.serveShiftNotice, if_neg (by simp [hrun])]
    rfl

end Sys2Proof.Machine
end

section
/-! PROOF. O47: a valid frame at its port: link presence, then the queue. -/
namespace Sys2Proof.Machine

/-! ### The port (R101, R145, R146, R195) -/

section
variable (x : Port) (p : PortName)

/-- R146: when the head is handed on, in terms of the head itself. -/
theorem Port.outstanding_or_mayHandOn :
    (x.outstanding || x.mayHandOn)
      = (x.outstanding || x.queue.head?.any fun r => r.kind == .useReport || decide (x.replies.length < 4)) := by
  unfold Port.mayHandOn
  cases x.queue with
  | nil => rfl
  | cons r rest => cases x.outstanding <;> simp

/-- A port after link presence. -/
def Port.present : Port := if x.state = .up then { x with silence := 0 } else x.comesUp p

/-- R101, R145, R195: link presence at Port C that was not UP drops the replies handed over before. -/
theorem Port.present_eq :
    x.present p = if p = .c ∧ x.state ≠ .up then
        { x with
          silence := 0, state := .up, replies := x.replies.filter fun r => !r.away
          outstanding := x.outstanding || x.queue.head?.any fun r =>
            r.kind == .useReport || decide ((x.replies.filter fun r => !r.away).length < 4) }
      else { x with silence := 0, state := .up } := by
  unfold Port.present Port.comesUp Port.dropAway
  by_cases hup : x.state = .up
  · rw [if_pos hup, if_neg (fun h => h.2 hup), ← hup]
  · rw [if_neg hup]
    by_cases hp : p = .c
    · rw [if_pos hp, if_pos ⟨hp, hup⟩, Port.handOn_spec, Port.outstanding_or_mayHandOn]
    · rw [if_neg hp, if_neg fun h => hp h.1]

/-- R145, R146: a request joins the queue, whose head is handed on, or is discarded. -/
theorem Port.enqueue_eq (q : Request) :
    x.enqueue q = if x.queue.length < 4 then
        { x with
          queue := x.queue ++ [q]
          outstanding := x.outstanding
            || (x.queue ++ [q]).head?.any fun r => r.kind == .useReport || decide (x.replies.length < 4) }
      else { x with discards := min 255 (x.discards + 1) } := by
  unfold Port.enqueue
  split
  · rw [Port.handOn_spec, Port.outstanding_or_mayHandOn]
  · rfl

end

/-! ### The arrival (R101, R145) -/

section
variable (s : State) (p : PortName) (q : Request)

/-- Existing grants changed without a change of any granted force move the table alone (R102). -/
theorem State.changeGrants_frame (ks : List GrantKey) {f : GrantKey → Grant → Grant}
    (h : ∀ k g, (f k g).granted = g.granted) :
    s.changeGrants ks f = { s with gre := { s.gre with grants := (s.changeGrants ks f).gre.grants } } := by
  have hframe := State.eq_of_besideClamps (s := s) (t := s.changeGrants ks f) (s.changeGrants_besideClamps _ _)
  rw [State.changeGrants_flu, State.changeGrants_slm, s.changeGrants_lines ks f h] at hframe
  exact hframe

/-- R101: confirming moves the table alone. -/
theorem State.confirmGrants_frame :
    s.confirmGrants p = { s with gre := { s.gre with grants := (s.confirmGrants p).gre.grants } } :=
  s.changeGrants_frame _ fun _ _ => rfl

/-- Link presence moves the port and the grants held through it. -/
theorem State.linkPresence_frame :
    s.linkPresence p = { s with
      ports := (s.linkPresence p).ports, gre := { s.gre with grants := (s.linkPresence p).gre.grants } } := by
  unfold State.linkPresence
  split
  · rfl
  · rw [State.confirmGrants_frame]; rfl

theorem State.arrive_frame :
    s.arrive p q = { s with
      ports := (s.arrive p q).ports, gre := { s.gre with grants := (s.arrive p q).gre.grants } } := by
  unfold State.arrive
  dsimp only
  split
  · exact s.linkPresence_frame p
  · rw [s.linkPresence_frame p]; rfl

theorem State.arrive_port :
    (s.arrive p q).port p
      = if q.kind = .linkHold then (s.port p).present p else ((s.port p).present p).enqueue q := by
  obtain ⟨hport, -⟩ := s.linkPresence_spec p
  have hport : (s.linkPresence p).port p = (s.port p).present p := hport
  unfold State.arrive
  dsimp only
  split
  · exact hport
  · rw [State.port_setPort_same, hport]

theorem State.arrive_port_other {j : PortName} (hj : j ≠ p) : (s.arrive p q).port j = s.port j := by
  obtain ⟨-, hother, -⟩ := s.linkPresence_spec p
  unfold State.arrive
  dsimp only
  split
  · exact hother j hj
  · rw [State.port_setPort_other _ _ _ _ hj]; exact hother j hj

theorem State.arrive_grant (k : GrantKey) :
    (s.arrive p q).grant k = if (s.port p).state ≠ .up ∧ k ∈ p.keys then
      (s.grant k).map fun g => { g with confirmation := .confirmed } else s.grant k := by
  obtain ⟨-, -, hgrant, -⟩ := s.linkPresence_spec p
  unfold State.arrive
  dsimp only
  split
  · exact hgrant k
  · exact hgrant k

/-! ### The two rows (R142, R143, R145; log 23, 25) -/

/-- The port whose frame in assembly has ended. -/
def Port.hunting (x : Port) : Port := { x with receiver := ⟨.hunting, [], 0, false, x.receiver.idle⟩ }

variable {s p q}

/-- R143: a valid frame that ends arrives. -/
theorem State.endFrame_valid (hvalid : (s.port p).receiver.validAs p q) :
    s.endFrame p = (s.setPort p (s.port p).hunting).arrive p q := by
  simp only [State.endFrame, (Receiver.judge_iff _ p q).mpr hvalid]
  rfl

theorem exec_frameReceived (hop : s.operating = true) (hassembling : (s.port p).receiver.state = .assembling) :
    exec (.frameReceived p) s = .next (s.endFrame p) := by
  simp only [exec, execFrameReceived, State.whileOperating_of_operating hop, go, State.frameEnds, hassembling]

theorem exec_linkHold (hop : s.operating = true) : exec (.linkHold p) s = .next (s.linkHeld p) := by
  simp only [exec, execLinkHold, State.whileOperating_of_operating hop, go]

/-- R145: a LINK_HOLD in assembly is one that passes the tests. -/
theorem Port.assemblesLinkHold_iff (x : Port) :
    x.assemblesLinkHold p = true
      ↔ x.receiver.state = .assembling ∧ ∃ q, x.receiver.validAs p q ∧ q.kind = .linkHold := by
  simp only [Port.assemblesLinkHold, Bool.and_eq_true, beq_iff_eq, Option.map_eq_some_iff, Receiver.judge_iff]

end

/-- Settles O47: both rows are an arrival, at the port whose frame has ended or at the port as it stands. -/
theorem validFrameArrives : Obligations.ValidFrameArrives := by
  refine ⟨fun s p q x y hop hassembling hvalid hx hy => ?_, fun s p hop hnone => ?_⟩
  · have hpresent : (s.port p).hunting.present p = y := by rw [hy, hx, Port.present_eq]; rfl
    have hport : (s.setPort p (s.port p).hunting).port p = (s.port p).hunting := State.port_setPort_same _ _ _
    refine ⟨_, (exec_frameReceived hop hassembling).trans (congrArg _ (State.endFrame_valid hvalid)), ?_,
      fun j hj => ?_, fun hkind => ?_, fun k => ?_, ?_⟩
    · rw [State.arrive_port, hport, hpresent, Port.enqueue_eq]
    · rw [State.arrive_port_other _ _ _ hj, State.port_setPort_other _ _ _ _ hj]
    · rw [exec_linkHold hop, State.linkHeld,
        if_pos ((Port.assemblesLinkHold_iff _).mpr ⟨hassembling, q, hvalid, hkind⟩), State.endFrame_valid hvalid]
    · rw [State.arrive_grant, hport]; rfl
    · rw [State.arrive_frame]; rfl
  · have hnone : ¬(s.port p).assemblesLinkHold p = true := by
      rw [Port.assemblesLinkHold_iff]
      rintro ⟨hassembling, q, hvalid, hkind⟩
      exact hnone.elim (fun h => h hassembling) fun h => h q hvalid hkind
    refine ⟨_, (exec_linkHold hop).trans (congrArg _ (if_neg hnone)), ?_, fun j hj => State.arrive_port_other _ _ _ hj,
      State.arrive_grant _ _ _, State.arrive_frame _ _ _⟩
    rw [State.arrive_port, if_pos rfl, Port.present_eq]

end Sys2Proof.Machine
end

section
/-! PROOF. O18: the expiry that takes a port's silence count to 12. The three ports take an expiry one after another, and
hold different keys, so each takes it as if alone. -/
namespace Sys2Proof.Machine

/-! ### One port (R149) -/

/-- What R149 makes LOST at an expiry. -/
def Port.Silent (x : Port) : Prop := x.state = .up ∧ 12 ≤ x.silence + 1

theorem Port.not_silent_iff {x : Port} : ¬x.Silent ↔ x.state ≠ .up ∨ x.silence + 1 < 12 := by
  rw [Port.Silent, not_and_or, Nat.not_le]

theorem Port.silenceRises_of_silent {x : Port} (h : x.Silent) :
    x.silenceRises = { x with state := .lost, silence := 12 } := by
  rw [Port.silenceRises, if_pos h.1, if_pos h.2]

theorem Port.becomesLost_iff (x : Port) : (x.state = .up ∧ x.silenceRises.state = .lost) ↔ x.Silent := by
  refine ⟨fun ⟨hup, hlost⟩ => ?_, fun h => ⟨h.1, by rw [Port.silenceRises_of_silent h]⟩⟩
  by_contra hsilent
  have hbelow : x.state = .up → x.silence + 1 < 12 := (Port.not_silent_iff.mp hsilent).resolve_left ∘ not_not_intro
  rw [Port.silenceRises_below_state hbelow, hup] at hlost
  cases hlost

/-! ### One port's expiry at the state (R100, R169) -/

section
variable (s : State) (p : PortName)

/-- R100: freezing moves the table alone. -/
theorem State.freezeGrants_frame :
    s.freezeGrants p = { s with gre := { s.gre with grants := (s.freezeGrants p).gre.grants } } :=
  s.changeGrants_frame _ fun _ _ => rfl

variable {s p}

theorem State.silenceRises_of_silent (h : (s.port p).Silent) :
    s.silenceRises p = if p = .c then ((s.setPort p (s.port p).silenceRises).freezeGrants p).closeSession
      else (s.setPort p (s.port p).silenceRises).freezeGrants p := by
  rw [State.silenceRises]
  dsimp only
  rw [State.port_setPort_same, if_pos ((Port.becomesLost_iff _).mpr h)]

theorem State.silenceRises_of_not_silent (h : ¬(s.port p).Silent) :
    s.silenceRises p = s.setPort p (s.port p).silenceRises :=
  State.silenceRises_below ((Port.not_silent_iff.mp h).resolve_left ∘ not_not_intro)

variable (s p)

theorem State.silenceRises_ports : (s.silenceRises p).ports = (s.setPort p (s.port p).silenceRises).ports := by
  by_cases h : (s.port p).Silent
  · rw [State.silenceRises_of_silent h]
    split
    · exact State.changeGrants_ports _ _ _
    · exact State.changeGrants_ports _ _ _
  · rw [State.silenceRises_of_not_silent h]

theorem State.silenceRises_port_same : (s.silenceRises p).port p = (s.port p).silenceRises := by
  rw [State.port, State.silenceRises_ports]; exact State.port_setPort_same _ _ _

theorem State.silenceRises_port_other {q : PortName} (hq : q ≠ p) : (s.silenceRises p).port q = s.port q := by
  rw [State.port, State.silenceRises_ports]; exact State.port_setPort_other _ _ _ _ hq

theorem State.silenceRises_grant_silent (h : (s.port p).Silent) {k : GrantKey} (hk : k ∈ p.keys) :
    (s.silenceRises p).grant k
      = (s.grant k).map fun g => { g with confirmation := .unconfirmed 250 .linkLost g.granted } := by
  have hgrant : ((s.setPort p (s.port p).silenceRises).freezeGrants p).grant k
      = (s.grant k).map fun g => { g with confirmation := .unconfirmed 250 .linkLost g.granted } := by
    rw [State.freezeGrants, State.changeGrants_grant _ _ _ (portKeys_nodup p), if_pos hk]; rfl
  rw [State.silenceRises_of_silent h]
  split
  · exact hgrant
  · exact hgrant

theorem State.silenceRises_grant_same {k : GrantKey} (h : k ∈ p.keys → ¬(s.port p).Silent) :
    (s.silenceRises p).grant k = s.grant k := by
  by_cases hsilent : (s.port p).Silent
  · have hgrant : ((s.setPort p (s.port p).silenceRises).freezeGrants p).grant k = s.grant k := by
      rw [State.freezeGrants, State.changeGrants_grant _ _ _ (portKeys_nodup p), if_neg fun hk => h hk hsilent]; rfl
    rw [State.silenceRises_of_silent hsilent]
    split
    · exact hgrant
    · exact hgrant
  · rw [State.silenceRises_of_not_silent hsilent]; rfl

theorem State.silenceRises_cst_same (h : p = .c → ¬(s.port p).Silent) : (s.silenceRises p).cst = s.cst := by
  by_cases hsilent : (s.port p).Silent
  · rw [State.silenceRises_of_silent hsilent, if_neg fun hc => h hc hsilent]
    exact State.changeGrants_cst _ _ _
  · rw [State.silenceRises_of_not_silent hsilent]; rfl

theorem State.silenceRises_session_closed (h : (s.port .c).Silent) : (s.silenceRises .c).cst.session = .closed := by
  rw [State.silenceRises_of_silent h]; rfl

theorem State.silenceRises_frame :
    s.silenceRises p = { s with
      ports := (s.silenceRises p).ports, gre := { s.gre with grants := (s.silenceRises p).gre.grants }
      cst := { s.cst with session := (s.silenceRises p).cst.session } } := by
  by_cases h : (s.port p).Silent
  · rw [State.silenceRises_of_silent h, State.freezeGrants_frame]
    split
    · rfl
    · rfl
  · rw [State.silenceRises_of_not_silent h]; rfl

/-! ### The three ports (log 9) -/

/-- An expiry at every port. -/
def State.silencesRise : State := ((s.silenceRises .e).silenceRises .b).silenceRises .c

theorem State.silencesRise_port (q : PortName) : s.silencesRise.port q = (s.port q).silenceRises := by
  unfold State.silencesRise
  cases q with
  | e => rw [State.silenceRises_port_other _ _ (by decide), State.silenceRises_port_other _ _ (by decide),
      State.silenceRises_port_same]
  | b => rw [State.silenceRises_port_other _ _ (by decide), State.silenceRises_port_same,
      State.silenceRises_port_other _ _ (by decide)]
  | c => rw [State.silenceRises_port_same, State.silenceRises_port_other _ _ (by decide),
      State.silenceRises_port_other _ _ (by decide)]

theorem keys_disjoint (k : GrantKey) : k ∈ PortName.e.keys → k ∉ PortName.b.keys := by cases k <;> decide

/-- Keys are held through Port E or Port B, each by one of them. -/
theorem State.silencesRise_grant (q : PortName) {k : GrantKey} (hk : k ∈ q.keys) :
    s.silencesRise.grant k = (s.silenceRises q).grant k := by
  have hb : ((s.silenceRises .e).silenceRises .b).grant k = s.silencesRise.grant k :=
    (State.silenceRises_grant_same _ .c (k := k) nofun).symm
  rw [← hb]
  cases q with
  | e => exact State.silenceRises_grant_same _ _ fun hk' => absurd hk' (keys_disjoint k hk)
  | b =>
    have he : (s.silenceRises .e).grant k = s.grant k :=
      State.silenceRises_grant_same _ _ fun hk' => absurd hk (keys_disjoint k hk')
    have hport : (s.silenceRises .e).port .b = s.port .b := State.silenceRises_port_other _ _ (by decide)
    by_cases h : (s.port .b).Silent
    · rw [State.silenceRises_grant_silent _ _ (hport ▸ h) hk, State.silenceRises_grant_silent _ _ h hk, he]
    · rw [State.silenceRises_grant_same _ _ fun _ => hport ▸ h, State.silenceRises_grant_same _ _ fun _ => h, he]
  | c => nomatch hk

theorem State.silencesRise_session :
    s.silencesRise.cst.session = (s.silenceRises .c).cst.session := by
  unfold State.silencesRise
  have hcst : ((s.silenceRises .e).silenceRises .b).cst = s.cst := by
    rw [State.silenceRises_cst_same _ .b (fun h => nomatch h), State.silenceRises_cst_same _ .e (fun h => nomatch h)]
  have hport : ((s.silenceRises .e).silenceRises .b).port .c = s.port .c := by
    rw [State.silenceRises_port_other _ _ (by decide), State.silenceRises_port_other _ _ (by decide)]
  by_cases h : (s.port .c).Silent
  · rw [State.silenceRises_session_closed _ h, State.silenceRises_session_closed _ (hport ▸ h)]
  · rw [State.silenceRises_cst_same _ _ fun _ => h, State.silenceRises_cst_same _ _ fun _ => hport ▸ h, hcst]

theorem State.silencesRise_frame :
    s.silencesRise = { s with
      ports := s.silencesRise.ports, gre := { s.gre with grants := s.silencesRise.gre.grants }
      cst := { s.cst with session := s.silencesRise.cst.session } } := by
  unfold State.silencesRise
  rw [State.silenceRises_frame _ .c, State.silenceRises_frame _ .b, State.silenceRises_frame _ .e]

end

/-! ### The two rows (log 1, 2) -/

/-- The state whose cycle timer has expired, before its ports take the expiry (R3, R20). -/
def State.timerRestarts (s : State) : State :=
  { s with
    leu := { s.leu with cycleTimer := some 0 }
    sif := { s.sif with transaction := true, mosi := 0x3C :: List.replicate 16 0 } }

variable {s : State}

theorem State.cycleTimerExpires_of_running {n : Nat} (htimer : s.leu.cycleTimer = some n) :
    s.cycleTimerExpires = s.timerRestarts.silencesRise := by
  simp only [State.cycleTimerExpires, htimer]
  rfl

theorem exec_cycleTimerExpiry_of_operating (hop : s.operating = true) :
    exec .cycleTimerExpiry s = .next s.cycleTimerExpires := by
  simp only [exec, execCycleTimerExpiry, State.whileOperating_of_operating hop, go]

/-- R149: the silence count expiry is the cycle timer's at which the port goes LOST. -/
theorem exec_silenceCountExpiry_of_lost {p : PortName} (hop : s.operating = true) (hup : (s.port p).state = .up)
    (hlost : (s.cycleTimerExpires.port p).state = .lost) :
    exec (.silenceCountExpiry p) s = .next s.cycleTimerExpires := by
  simp only [exec, execSilenceCountExpiry, State.whileOperating_of_operating hop, occurring, hup, hlost]
  rfl

/-- Settles O18: `State.silencesRise`, port by port, for the silent port and for the others. -/
theorem silentPortLost : Obligations.SilentPortLost := by
  intro s n p hop htimer hup hcount
  have hsilent : (s.timerRestarts.port p).Silent := ⟨hup, hcount⟩
  have hexpiry := State.cycleTimerExpires_of_running htimer
  have hport : s.cycleTimerExpires.port p = { s.port p with state := .lost, silence := 12 } := by
    rw [hexpiry, State.silencesRise_port]; exact Port.silenceRises_of_silent hsilent
  refine ⟨_, exec_silenceCountExpiry_of_lost hop hup (by rw [hport]), exec_cycleTimerExpiry_of_operating hop, hport,
    fun k hk => ?_, fun hc => ?_, fun q _ => ?_, fun q hq => ?_, ?_⟩
  · rw [hexpiry, State.silencesRise_grant _ p hk]
    exact State.silenceRises_grant_silent _ p hsilent hk
  · subst hc
    rw [hexpiry, State.silencesRise_session]
    exact State.silenceRises_session_closed _ hsilent
  · rw [hexpiry, State.silencesRise_port]
    unfold Port.silenceRises
    rfl
  · have hq : ¬(s.timerRestarts.port q).Silent := Port.not_silent_iff.mpr hq
    rw [hexpiry]
    refine ⟨fun k hk => ?_, fun hc => ?_⟩
    · rw [State.silencesRise_grant _ q hk]; exact State.silenceRises_grant_same _ q fun _ => hq
    · subst hc
      rw [State.silencesRise_session, State.silenceRises_cst_same _ _ fun _ => hq]
      rfl
  · rw [hexpiry]; exact State.silencesRise_frame _

end Sys2Proof.Machine
end

section
/-! PROOF. O27: a monitor's turn at any publication: what it measures, which its act leaves, and its act under the IDLE
condition and in HARD. -/
namespace Sys2Proof.Machine

/-! ### What a monitor measures (R109, R110) -/

theorem State.slipAt_eq (s : State) (m : MonitorName) (p : Publication) :
    s.slipAt m p
      = if p.estimate.vRefValid = true ∧ p.sample.valid.get m.wheel = true ∧ (s.monitor m).wheelSeen = .valid then
          some (clampInt (-1000) 1000 (truncated (((p.sample.speed.get m.wheel : Int) - p.estimate.vRef) * 1000)
            (max p.estimate.vRef 300 : Nat)))
        else none := by
  simp only [State.slipAt, State.countsValid, slipOf, Bool.and_eq_true, beq_iff_eq]

theorem State.hardThreshold_eq (s : State) (m : MonitorName) :
    s.hardThreshold m = if m = .rearSpin then s.params.hardSpin s.profile else s.params.hardLock s.profile := by
  cases m <;> rfl

theorem State.boundAt_eq (s : State) (m : MonitorName) (p : Publication) :
    s.boundAt m p
      = if p.estimate.vRefValid = true ∧ 300 ≤ p.estimate.vRef then
          some (s.params.circumference m.wheel * 100000 / (s.params.teeth m.wheel * p.estimate.vRef) * 1000
            / (1000 + (if m = .rearSpin then s.params.hardSpin s.profile else s.params.hardLock s.profile)).toNat)
        else none := by
  simp only [State.boundAt, referencePeriod, State.hardThreshold_eq, Bool.and_eq_true, decide_eq_true_eq]

theorem State.idleCondition_iff (s : State) (m : MonitorName) (p : Publication) :
    s.idleCondition m p = true ↔ p.estimate.vRefValid = false ∨ p.estimate.vRef < 300
      ∨ p.sample.valid.get m.wheel = false ∨ (s.monitor m).wheelSeen = .invalid := by
  have hseen : ¬(s.monitor m).wheelSeen = .valid ↔ (s.monitor m).wheelSeen = .invalid := by
    cases (s.monitor m).wheelSeen <;> decide
  simp only [State.idleCondition, State.countsValid, Bool.or_eq_true, Bool.not_eq_true', decide_eq_true_eq,
    Bool.and_eq_false_iff, beq_eq_false_iff_ne, hseen, or_assoc]

/-! ### What its act leaves of it (R111 to R121) -/

/-- What a record holds of the watched wheel: its slip, its bound, its input state and the lock window. -/
def Monitor.measured (x : Monitor) : Option Int × Option Nat × WheelState × Option Nat :=
  (x.lastSlip, x.bound, x.wheelSeen, x.window)

/-- A monitor has moved without a new measurement. -/
def State.KeepsMeasured (m : MonitorName) (s t : State) : Prop := (t.monitor m).measured = (s.monitor m).measured

section
variable (s : State) (m : MonitorName)

theorem State.setMonitor_keepsMeasured {x : Monitor} (hx : x.measured = (s.monitor m).measured) :
    State.KeepsMeasured m s (s.setMonitor m x) := by
  rw [State.KeepsMeasured, State.monitor_setMonitor_same, hx]

theorem State.endClamp_keepsMeasured {x : Monitor} (hx : x.measured = (s.monitor m).measured) :
    State.KeepsMeasured m s (s.endClamp m x) := by
  rw [State.KeepsMeasured, State.endClamp_monitor, hx]

theorem State.triggerSoft_keepsMeasured (e : Word16) : State.KeepsMeasured m s (s.triggerSoft m e) := by
  rw [State.KeepsMeasured, State.triggerSoft_monitor]; rfl

theorem State.triggerHard_keepsMeasured (kind : TriggerKind) (e : Word16) :
    State.KeepsMeasured m s (s.triggerHard m kind e) := by
  rw [State.KeepsMeasured, State.triggerHard_monitor]; rfl

theorem State.idleMonitor_keepsMeasured : State.KeepsMeasured m s (s.idleMonitor m) := by
  unfold State.idleMonitor
  split
  · exact s.endClamp_keepsMeasured m rfl
  · exact s.setMonitor_keepsMeasured m rfl

theorem State.armedPublication_keepsMeasured (x : Int) (e : Word16) :
    State.KeepsMeasured m s (s.armedPublication m x e) := by
  unfold State.armedPublication
  split_ifs
  · exact s.triggerHard_keepsMeasured m _ e
  · exact s.triggerSoft_keepsMeasured m e
  · exact s.setMonitor_keepsMeasured m rfl
  · exact s.setMonitor_keepsMeasured m rfl

theorem State.delayingPublication_keepsMeasured (x : Int) (e : Word16) :
    State.KeepsMeasured m s (s.delayingPublication m x e) := by
  unfold State.delayingPublication
  split_ifs
  · exact s.triggerHard_keepsMeasured m _ e
  · exact s.triggerSoft_keepsMeasured m e
  · exact s.setMonitor_keepsMeasured m rfl
  · exact s.setMonitor_keepsMeasured m rfl

theorem State.softPublication_keepsMeasured (x : Int) (e : Word16) :
    State.KeepsMeasured m s (s.softPublication m x e) := by
  unfold State.softPublication
  split_ifs
  · exact s.triggerHard_keepsMeasured m _ e
  · exact s.triggerHard_keepsMeasured m _ e
  · exact s.endClamp_keepsMeasured m rfl
  · exact s.setMonitor_keepsMeasured m rfl

theorem State.hardPublication_keepsMeasured (x : Option Int) : State.KeepsMeasured m s (s.hardPublication m x) := by
  unfold State.hardPublication
  split_ifs
  · exact s.endClamp_keepsMeasured m rfl
  · exact s.setMonitor_keepsMeasured m rfl

theorem State.blankingPublication_keepsMeasured (x : Int) (e : Word16) :
    State.KeepsMeasured m s (s.blankingPublication m x e) := by
  unfold State.blankingPublication
  split_ifs
  · exact s.triggerHard_keepsMeasured m _ e
  · exact s.setMonitor_keepsMeasured m rfl
  · exact s.setMonitor_keepsMeasured m rfl

theorem State.actOnPublication_keepsMeasured (p : Publication) :
    State.KeepsMeasured m s (s.actOnPublication m p) := by
  have hidle := s.idleMonitor_keepsMeasured m
  unfold State.actOnPublication
  dsimp only
  split
  · exact s.hardPublication_keepsMeasured m _
  · split
    · exact rfl
    · exact s.armedPublication_keepsMeasured m _ _
  · split
    · exact hidle
    · exact s.armedPublication_keepsMeasured m _ _
  · split
    · exact hidle
    · exact s.delayingPublication_keepsMeasured m _ _
  · split
    · exact hidle
    · exact s.softPublication_keepsMeasured m _ _
  · split
    · exact hidle
    · exact s.blankingPublication_keepsMeasured m _ _

end

/-! ### The act under the IDLE condition and in HARD (R111, R118) -/

section
variable {v : State} {m : MonitorName} {p : Publication}

theorem State.actOnPublication_idles (hidle : v.idleCondition m p = true) (hstate : (v.monitor m).state ≠ .hard) :
    v.actOnPublication m p = if (v.monitor m).state = .idle then v else v.idleMonitor m := by
  cases h : (v.monitor m).state with
  | hard => exact absurd h hstate
  | idle => simp [State.actOnPublication, h, hidle]
  | armed => simp [State.actOnPublication, h, hidle]
  | delaying => simp [State.actOnPublication, h, hidle]
  | soft => simp [State.actOnPublication, h, hidle]
  | blanking => simp [State.actOnPublication, h, hidle]

theorem State.idleMonitor_monitor : (v.idleMonitor m).monitor m = (v.monitor m).idleRecord := by
  unfold State.idleMonitor
  split
  · exact State.endClamp_monitor _
  · exact State.monitor_setMonitor_same _ _ _

theorem State.idleMonitor_of_soft (h : (v.monitor m).state = .soft) :
    v.idleMonitor m = v.endClamp m (v.monitor m).idleRecord := if_pos h

theorem State.idleMonitor_grant (h : (v.monitor m).state ≠ .soft) (k : GrantKey) :
    (v.idleMonitor m).grant k = v.grant k := by
  rw [State.idleMonitor, if_neg h, State.grant_setMonitor]

theorem State.actOnPublication_of_hard (h : (v.monitor m).state = .hard) :
    v.actOnPublication m p = v.hardPublication m (v.monitor m).lastSlip := by
  simp only [State.actOnPublication, h]

theorem State.withinBand_some (x : Int) :
    v.withinBand m (some x) = if v.params.softLock v.profile ≤ x ∧ x ≤ v.params.softSpin v.profile then
      min 1000 ((v.monitor m).within + 1) else 0 := by
  simp only [State.withinBand, State.insideSoft_iff, saturatingSucc]

end

/-! ### A monitor's turn at a publication (R21, R51) -/

namespace State.SameFor

variable {s u : State} {m : MonitorName} (h : State.SameFor m s u)
include h

theorem noted (p : Publication) : State.SameFor m (s.noted m p) (u.noted m p) := by
  have hslip : u.slipAt m p = s.slipAt m p := by rw [State.slipAt_eq, State.slipAt_eq, h.monitor]
  have hbound : u.boundAt m p = s.boundAt m p := by rw [State.boundAt_eq, State.boundAt_eq, h.params, h.profile]
  refine ⟨?_, h.grant, h.reports, h.besideClamps⟩
  rw [State.noted, State.noted, State.monitor_setMonitor_same, State.monitor_setMonitor_same, h.monitor, hslip, hbound]

theorem idleCondition (p : Publication) : u.idleCondition m p = s.idleCondition m p := by
  simp only [State.idleCondition, State.countsValid, h.monitor]

theorem withinBand (x : Option Int) : u.withinBand m x = s.withinBand m x := by
  cases x with
  | none => rfl
  | some x => rw [State.withinBand_some, State.withinBand_some, h.monitor, h.params, h.profile]

end State.SameFor

/-- A publication's state in which a monitor has noted what it measures, as the monitor finds it for its act. -/
def State.atTurn (s : State) (m : MonitorName) : State := s.publishing.noted m s.estimated

section
variable {s : State} {m : MonitorName}

theorem State.atTurn_monitor :
    (s.atTurn m).monitor m
      = { s.monitor m with lastSlip := s.slipAt m s.estimated, bound := s.boundAt m s.estimated } :=
  State.monitor_setMonitor_same _ _ _

theorem State.atTurn_idleCondition : (s.atTurn m).idleCondition m s.estimated = s.idleCondition m s.estimated := by
  simp only [State.idleCondition, State.countsValid, State.atTurn_monitor]

theorem State.atTurn_withinBand (x : Option Int) : (s.atTurn m).withinBand m x = s.withinBand m x := by
  simp only [State.withinBand, State.atTurn_monitor]
  rfl

/-- A monitor acts on a publication out of a state that it cannot tell from the publication's, and its act stands. -/
theorem State.estimateStep_actsAtTurn (hop : s.operating = true) (hwork : s.leu.work ≠ .idle) (m : MonitorName) :
    ∃ v, State.SameFor m (s.atTurn m) v ∧ State.SameFor m (v.actOnPublication m s.estimated) s.estimateStep := by
  obtain ⟨u, hturn⟩ := State.estimateStep_turn hop hwork m
  exact ⟨u.noted m s.estimated, hturn.finds.noted s.estimated, hturn.stands⟩

end

/-! ### The publication's outcomes -/

/-- Log 2: the occurrence's row takes the publication's step where it falls in it. -/
theorem exec_blankingExpiry {s : State} {m : MonitorName} (hstate : (s.monitor m).state = .blanking)
    (harmed : (s.estimateStep.monitor m).state = .armed) : exec (.blankingExpiry m) s = .next s.estimateStep := by
  simp [exec, execBlankingExpiry, occurring, hstate, harmed, go]

theorem exec_hardAutoEnd {s : State} {m : MonitorName} (hstate : (s.monitor m).state = .hard)
    (hblanking : (s.estimateStep.monitor m).state = .blanking) :
    exec (.hardAutoEnd m) s = .next s.estimateStep := by
  simp [exec, execHardAutoEnd, occurring, hstate, hblanking, go]

section
variable {s : State} {m : MonitorName} (hop : s.operating = true) (hwork : s.leu.work ≠ .idle)
include hop hwork

/-- R109, R110: a publication leaves what the monitor measures at it. -/
theorem State.estimateStep_measured :
    (s.estimateStep.monitor m).measured
      = (s.slipAt m s.estimated, s.boundAt m s.estimated, (s.monitor m).wheelSeen, (s.monitor m).window) := by
  obtain ⟨v, hv, hstands⟩ := State.estimateStep_actsAtTurn hop hwork m
  have hkept : ((v.actOnPublication m s.estimated).monitor m).measured = (v.monitor m).measured :=
    v.actOnPublication_keepsMeasured m s.estimated
  rw [hstands.monitor, hkept, hv.monitor, State.atTurn_monitor]
  rfl

/-- R111: under the IDLE condition a monitor in IDLE rests. -/
theorem State.estimateStep_stays_idle (hidle : s.idleCondition m s.estimated = true)
    (hstate : (s.monitor m).state = .idle) :
    (s.estimateStep.monitor m).state = .idle ∧ ∀ k ∈ m.keys, s.estimateStep.grant k = s.grant k := by
  obtain ⟨v, hv, hstands⟩ := State.estimateStep_actsAtTurn hop hwork m
  have hstate' : (v.monitor m).state = .idle := by rw [hv.monitor, State.atTurn_monitor, hstate]
  rw [State.actOnPublication_idles ((hv.idleCondition _).trans (State.atTurn_idleCondition.trans hidle))
    (by rw [hstate']; nofun), if_pos hstate'] at hstands
  refine ⟨by rw [hstands.monitor, hstate'], fun k hk => ?_⟩
  have hkm := (mem_monitorKeys m k).mp hk
  exact (hstands.grant k hkm).trans (hv.grant k hkm)

/-- R99, R111: one in another state than HARD enters IDLE, and ends its clamp out of SOFT. -/
theorem State.estimateStep_enters_idle (hidle : s.idleCondition m s.estimated = true)
    (hhard : (s.monitor m).state ≠ .hard) (hstate : (s.monitor m).state ≠ .idle) :
    s.estimateStep.monitor m = ((s.atTurn m).monitor m).idleRecord
      ∧ ((s.monitor m).state = .soft → ∀ k ∈ m.keys, s.estimateStep.grantedForce k = s.grantedForce k
          ∧ ∀ g, s.estimateStep.grant k = some g → g.recovering = true)
      ∧ ((s.monitor m).state ≠ .soft → ∀ k ∈ m.keys, s.estimateStep.grant k = s.grant k) := by
  obtain ⟨v, hv, hstands⟩ := State.estimateStep_actsAtTurn hop hwork m
  have hvstate : (v.monitor m).state = (s.monitor m).state := by rw [hv.monitor, State.atTurn_monitor]
  rw [State.actOnPublication_idles ((hv.idleCondition _).trans (State.atTurn_idleCondition.trans hidle))
    (by rwa [hvstate]), if_neg (by rwa [hvstate])] at hstands
  refine ⟨by rw [hstands.monitor, State.idleMonitor_monitor, hv.monitor], fun hsoft k hk => ?_, fun hsoft k hk => ?_⟩
  · have hkm := (mem_monitorKeys m k).mp hk
    have hforce : v.grantedForce k = s.grantedForce k := hv.grantedForce hkm
    rw [State.idleMonitor_of_soft (hvstate.trans hsoft)] at hstands
    rw [hstands.grantedForce hkm, hstands.grant k hkm, ← hforce]
    exact State.endClamp_recovers _ hkm
  · have hkm := (mem_monitorKeys m k).mp hk
    rw [hstands.grant k hkm, State.idleMonitor_grant (by rwa [hvstate])]
    exact hv.grant k hkm

/-- R118: a HARD monitor acts on its within-band count, in a state that it cannot tell from the publication's. -/
theorem State.estimateStep_hard (hhard : (s.monitor m).state = .hard) :
    ∃ v, State.SameFor m (s.atTurn m) v
      ∧ State.SameFor m (if 0 < s.params.hardAuto ∧ s.params.hardAuto ≤ s.withinBand m (s.slipAt m s.estimated) then
          v.blankAfterClamp m
        else v.setMonitor m { v.monitor m with within := s.withinBand m (s.slipAt m s.estimated) }) s.estimateStep := by
  obtain ⟨v, hv, hstands⟩ := State.estimateStep_actsAtTurn hop hwork m
  have hslip : (v.monitor m).lastSlip = s.slipAt m s.estimated := by rw [hv.monitor, State.atTurn_monitor]
  have hparams : v.params = s.params := hv.params
  rw [State.actOnPublication_of_hard (by rw [hv.monitor, State.atTurn_monitor, hhard]), State.hardPublication, hslip,
    hv.withinBand, State.atTurn_withinBand, hparams] at hstands
  exact ⟨v, hv, hstands⟩

/-- R99, R118, R122: HARD ends by itself at hard_auto publications inside the soft thresholds. -/
theorem State.estimateStep_hard_ends (hhard : (s.monitor m).state = .hard) (hauto : 0 < s.params.hardAuto)
    (hcount : s.params.hardAuto ≤ s.withinBand m (s.slipAt m s.estimated)) :
    (s.estimateStep.monitor m).state = .blanking ∧ (s.estimateStep.monitor m).within = 0
      ∧ (s.estimateStep.monitor m).count = s.params.blank s.profile
      ∧ ∀ k ∈ m.keys, s.estimateStep.grantedForce k = s.grantedForce k
          ∧ ∀ g, s.estimateStep.grant k = some g → g.recovering = true := by
  obtain ⟨v, hv, hstands⟩ := State.estimateStep_hard hop hwork hhard
  rw [if_pos ⟨hauto, hcount⟩, State.blankAfterClamp] at hstands
  have hrecord := hstands.monitor.trans (State.endClamp_monitor _)
  have hparams : v.params = s.params := hv.params
  have hprofile : v.profile = s.profile := hv.profile
  refine ⟨by rw [hrecord], by rw [hrecord], by rw [hrecord, hparams, hprofile], fun k hk => ?_⟩
  have hkm := (mem_monitorKeys m k).mp hk
  have hforce : v.grantedForce k = s.grantedForce k := hv.grantedForce hkm
  rw [hstands.grantedForce hkm, hstands.grant k hkm, ← hforce]
  exact State.endClamp_recovers _ hkm

/-- R118: short of that the within-band count moves alone. -/
theorem State.estimateStep_hard_counts (hhard : (s.monitor m).state = .hard)
    (hcount : ¬(0 < s.params.hardAuto ∧ s.params.hardAuto ≤ s.withinBand m (s.slipAt m s.estimated))) :
    s.estimateStep.monitor m
        = { (s.atTurn m).monitor m with within := s.withinBand m (s.slipAt m s.estimated) }
      ∧ ∀ k ∈ m.keys, s.estimateStep.grant k = s.grant k := by
  obtain ⟨v, hv, hstands⟩ := State.estimateStep_hard hop hwork hhard
  rw [if_neg hcount] at hstands
  refine ⟨by rw [hstands.monitor, State.monitor_setMonitor_same, hv.monitor], fun k hk => ?_⟩
  have hkm := (mem_monitorKeys m k).mp hk
  exact (hstands.grant k hkm).trans (hv.grant k hkm)

end

/-- Settles O27: what is measured stands through the act (`State.estimateStep_measured`); the act is IDLE's entry
(`State.estimateStep_enters_idle`), HARD's count or end, and for a BLANKING count that runs out O26's write. -/
theorem blankingAndHardEnd : Obligations.BlankingAndHardEnd := by
  intro s m p hop hwork hp
  obtain rfl : s.estimated = p := Option.some.inj ((State.estimateStep_published hop hwork).symm.trans hp)
  have hmeasured := State.estimateStep_measured (m := m) hop hwork
  simp only [Monitor.measured, Prod.mk.injEq] at hmeasured
  obtain ⟨hslip, hbound, hseen, hwindow⟩ := hmeasured
  refine ⟨_, exec_estimatePublication s, hp, hslip, s.slipAt_eq m _, hbound.trans (s.boundAt_eq m _), hseen, hwindow,
    s.idleCondition_iff m _, fun hidle hhard => ?_, fun hhard n hn => ?_, fun x hblanking hcount hidle hx hbelow => ?_⟩
  · by_cases hstate : (s.monitor m).state = .idle
    · obtain ⟨hstays, hgrants⟩ := State.estimateStep_stays_idle hop hwork hidle hstate
      exact ⟨hstays, fun h => absurd hstate h, fun h => absurd (hstate.symm.trans h) nofun, fun _ => hgrants⟩
    · obtain ⟨hrecord, hsoft, hother⟩ := State.estimateStep_enters_idle hop hwork hidle hhard hstate
      refine ⟨by rw [hrecord]; rfl, fun _ => ?_, hsoft, hother⟩
      rw [hrecord]
      exact ⟨rfl, rfl, rfl⟩
  · have hband : s.withinBand m (s.slipAt m s.estimated) = n := by
      rw [hn]
      cases s.slipAt m s.estimated with
      | none => rfl
      | some x => exact State.withinBand_some x
    subst hband
    refine ⟨fun hauto hends => ?_, fun hshort => ?_⟩
    · have hended := State.estimateStep_hard_ends hop hwork hhard hauto hends
      exact ⟨exec_hardAutoEnd hhard hended.1, hended⟩
    · obtain ⟨hrecord, hgrants⟩ := State.estimateStep_hard_counts hop hwork hhard (by omega)
      rw [hrecord, State.atTurn_monitor]
      exact ⟨hhard, rfl, rfl, hgrants⟩
  · obtain ⟨t, ht, -, -, -, hwrites⟩ := softClampRuns s m s.estimated x hop hwork hp hidle hx
    obtain rfl : s.estimateStep = t := Host.Outcome.next.inj ((exec_estimatePublication s).symm.trans ht)
    obtain ⟨hrecord, hgrants⟩ := hwrites hbelow .armed 0
      (.inr (.inr (.inr (.inr ⟨hblanking, by omega, rfl⟩))))
    have harmed : (s.estimateStep.monitor m).state = .armed := by rw [hrecord]
    exact ⟨exec_blankingExpiry hblanking harmed, harmed, by rw [hrecord], hgrants⟩

end Sys2Proof.Machine
end

section
/-! PROOF. O43, O44: the code that a force is given and the force that a code encodes, and what each event of a ceiling line
does: its period's start, its pulse's end, a delivery, a microsecond. -/
namespace Sys2Proof.Machine

/-! ### Codes and forces (R129, R130) -/

theorem targetCode_some (fullScale g : Nat) :
    targetCode fullScale (some g) = 100 + min g fullScale * 800 / fullScale := rfl

theorem encodedForce_mono (fullScale : Nat) {code code' : Nat} (h : code ≤ code') :
    encodedForce fullScale code ≤ encodedForce fullScale code' := by
  unfold encodedForce
  gcongr

theorem targetCode_mono (fullScale : Nat) {g g' : Nat} (h : g ≤ g') :
    targetCode fullScale (some g) ≤ targetCode fullScale (some g') := by
  simp only [targetCode_some]
  gcongr

theorem targetCode_le (fullScale g : Nat) : targetCode fullScale (some g) ≤ 900 := by
  have hle : min g fullScale * 800 / fullScale ≤ 800 :=
    Nat.div_le_of_le_mul (Nat.mul_le_mul_right 800 (Nat.min_le_right g fullScale))
  rw [targetCode_some]
  omega

/-- The code of a force counts the whole steps of FS/800 in what of it fits the full scale, and encodes their floor. -/
theorem encodedForce_targetCode (fullScale g : Nat) :
    encodedForce fullScale (targetCode fullScale (some g))
      = min g fullScale * 800 / fullScale * fullScale / 800 := by
  rw [encodedForce, targetCode_some, Nat.add_sub_cancel_left]

/-- R132: a target code encodes no more than its force, at any full scale; the code of an absent one encodes nothing. -/
theorem encodedForce_targetCode_le (fullScale : Nat) (force : Option Nat) :
    encodedForce fullScale (targetCode fullScale force) ≤ force.getD 0 := by
  cases force with
  | none => simp [encodedForce, targetCode]
  | some g =>
    rw [encodedForce_targetCode]
    calc min g fullScale * 800 / fullScale * fullScale / 800
      _ ≤ min g fullScale * 800 / 800 := Nat.div_le_div_right (Nat.div_mul_le_self _ _)
      _ = min g fullScale := Nat.mul_div_cancel _ (by decide)
      _ ≤ g := Nat.min_le_left _ _

/-- R130: rounding down twice, to a code and to a force, loses under two steps where a step is a newton or more. -/
theorem lt_encodedForce_targetCode {fullScale g : Nat} (hfs : 800 ≤ fullScale) (hg : g ≤ fullScale) :
    g * 800 < encodedForce fullScale (targetCode fullScale (some g)) * 800 + 2 * fullScale := by
  rw [encodedForce_targetCode, Nat.min_eq_left hg]
  have hcode : g * 800 < g * 800 / fullScale * fullScale + fullScale := Nat.lt_div_mul_add (by omega)
  have hforce := Nat.lt_div_mul_add (a := g * 800 / fullScale * fullScale) (b := 800) (by decide)
  omega

/-- Settles O44: the code's bounds and order are those of a floored proportion; what it encodes is
`encodedForce_targetCode`. -/
theorem codeEncodesForce : Obligations.CodeEncodesForce := fun fs g _ hlo _ hle =>
  ⟨Nat.le_add_right 100 _, targetCode_le fs g, targetCode_mono fs hle, encodedForce_targetCode_le fs (some g),
    lt_encodedForce_targetCode (Nat.le_trans (by decide) hlo)⟩

/-! ### The events of a line (R131 to R133) -/

section
variable {l : CeilingLine} {n : Nat}

theorem CeilingLine.periodStart_eq (h : l.timer = some n) :
    l.periodStart = { l with timer := some 0, current := l.preset, high := true } := by
  simp only [CeilingLine.periodStart, h]

/-- R131: a pulse that ends at its code. -/
theorem CeilingLine.pulseEnd_eq (h : l.timer = some n) (hhigh : l.high = true) (hn : n ≤ l.current) :
    l.pulseEnd = { l with timer := some l.current, high := false } := by
  simp only [CeilingLine.pulseEnd, h, hhigh, if_true, Nat.max_eq_right hn]

theorem CeilingLine.tick_stopped (h : l.timer = none) : l.tick = l := by
  obtain ⟨_, _, _, _, _, _⟩ := l
  subst h
  rfl

theorem CeilingLine.tick_running (h : l.timer = some n) :
    l.tick = { l with timer := some (if n < (if l.high then l.current else 999) then n + 1 else n) } := by
  simp only [CeilingLine.tick, countUp, h, Option.map_some]

theorem CeilingLine.below_iff (l : CeilingLine) (code : Nat) :
    l.below code = true ↔ ∃ n, l.timer = some n ∧ n < code := by
  unfold CeilingLine.below
  cases l.timer <;> simp

/-- R133: a code at or above the current one waits as the preset. -/
theorem CeilingLine.deliver_of_le {force : Option Nat} (h : l.current ≤ targetCode l.fullScale force) :
    l.deliver force = { l with carried := force, preset := targetCode l.fullScale force } :=
  if_neg (Nat.not_lt.mpr h)

/-- R132: a lower code acts at once. -/
theorem CeilingLine.deliver_of_lt {force : Option Nat} (h : targetCode l.fullScale force < l.current) :
    l.deliver force = { l with
      carried := force
      current := targetCode l.fullScale force
      preset := targetCode l.fullScale force
      high := l.high && l.below (targetCode l.fullScale force) } :=
  if_pos h

end

theorem State.ticked_line (s : State) (l : LineName) : s.ticked.line l = (s.line l).tick := PerLine.get_map _ _ _

theorem exec_linePeriodStart {s : State} (hop : s.operating = true) (l : LineName) :
    exec (.linePeriodStart l) s = .next (s.setLine l (s.line l).periodStart) := by
  simp only [exec, execLinePeriodStart, State.whileOperating_of_operating hop, go]

theorem exec_linePulseEnd {s : State} (hop : s.operating = true) (l : LineName) :
    exec (.linePulseEnd l) s = .next (s.setLine l (s.line l).pulseEnd) := by
  simp only [exec, execLinePulseEnd, State.whileOperating_of_operating hop, go]

/-- Settles O43, event by event: a delivery by where its code lies, a microsecond by whether the timer runs, the two rows. -/
theorem linePulses : Obligations.LinePulses := by
  refine ⟨fun l force c hc => ?_, fun s l hempty hop => ?_, fun s l n hop htimer => ⟨?_, fun hhigh hn => ?_⟩⟩
  · obtain rfl : targetCode l.fullScale force = c := by rw [hc]; cases force <;> rfl
    refine ⟨CeilingLine.deliver_of_le, fun hlower => ⟨_, CeilingLine.deliver_of_lt hlower, ?_⟩⟩
    rw [Bool.and_eq_true, CeilingLine.below_iff]
  · refine ⟨s.ticked, ?_, fun hstopped => ?_, fun n limit htimer hlimit => ?_⟩
    · rw [step_of_empty hempty, State.tick, State.whileOperating_of_operating hop]
    · rw [State.ticked_line, CeilingLine.tick_stopped hstopped]
    · rw [State.ticked_line, CeilingLine.tick_running htimer, hlimit]
  · rw [exec_linePeriodStart hop, CeilingLine.periodStart_eq htimer]
  · rw [exec_linePulseEnd hop, CeilingLine.pulseEnd_eq htimer hhigh hn]

end Sys2Proof.Machine
end

section
/-! SUPPORT. What a ceiling line carries: the code that the granted force of its key asks for. Every operation of an
operating part keeps it: those that move a granted force deliver it, and the rest move no line and no force. -/
namespace Sys2Proof.Machine

/-! ### One line (R131 to R133, R139) -/

/-- A running line that carries a force: the preset code is its target code, the current code is not above it, and the level
is high only up to the current code. -/
structure CeilingLine.Carries (l : CeilingLine) (force : Option Nat) : Prop where
  carried : l.carried = force
  preset : l.preset = targetCode l.fullScale force
  current : l.current ≤ l.preset
  timer : ∃ n, l.timer = some n ∧ (l.high = true → n ≤ l.current)

namespace CeilingLine.Carries

variable {l : CeilingLine} {force : Option Nat} (h : l.Carries force)
include h

/-- R132: such a line encodes no more than its force. -/
theorem encodes_le : encodedForce l.fullScale l.current ≤ force.getD 0 :=
  calc encodedForce l.fullScale l.current
    _ ≤ encodedForce l.fullScale l.preset := encodedForce_mono _ h.current
    _ = encodedForce l.fullScale (targetCode l.fullScale force) := by rw [h.preset]
    _ ≤ force.getD 0 := encodedForce_targetCode_le _ _

/-- R132, R133: a delivery of any force, at any full scale. -/
theorem deliver (fullScale : Nat) (force' : Option Nat) :
    ({ l with fullScale := fullScale }.deliver force').Carries force' := by
  obtain ⟨n, htimer, hhigh⟩ := h.timer
  rcases Nat.lt_or_ge (targetCode fullScale force') l.current with hlower | hrises
  · rw [CeilingLine.deliver_of_lt (l := { l with fullScale := fullScale }) hlower]
    refine ⟨rfl, rfl, le_rfl, n, htimer, fun hstays => ?_⟩
    obtain ⟨m, hm, hbelow⟩ := (CeilingLine.below_iff _ _).mp (Bool.and_eq_true_iff.mp hstays).2
    obtain rfl : n = m := Option.some.inj (htimer.symm.trans hm)
    exact hbelow.le
  · rw [CeilingLine.deliver_of_le (l := { l with fullScale := fullScale }) hrises]
    exact ⟨rfl, rfl, hrises, n, htimer, hhigh⟩

/-- R139: the working copy's full scale. -/
theorem reloaded (fullScale : Nat) : (l.reloaded fullScale).Carries force := by
  unfold CeilingLine.reloaded
  rw [h.carried]
  exact h.deliver fullScale force

theorem periodStart : l.periodStart.Carries force := by
  obtain ⟨n, htimer, -⟩ := h.timer
  rw [CeilingLine.periodStart_eq htimer]
  exact ⟨h.carried, h.preset, le_rfl, 0, rfl, fun _ => Nat.zero_le _⟩

theorem pulseEnd : l.pulseEnd.Carries force := by
  obtain ⟨n, htimer, hhigh⟩ := h.timer
  by_cases hlevel : l.high = true
  · rw [CeilingLine.pulseEnd_eq htimer hlevel (hhigh hlevel)]
    exact ⟨h.carried, h.preset, h.current, _, rfl, nofun⟩
  · have hrests : l.pulseEnd = l := by simp only [CeilingLine.pulseEnd, htimer, hlevel]; rfl
    rwa [hrests]

theorem tick : l.tick.Carries force := by
  obtain ⟨n, htimer, hhigh⟩ := h.timer
  rw [CeilingLine.tick_running htimer]
  refine ⟨h.carried, h.preset, h.current, _, rfl, fun hlevel => ?_⟩
  have hlevel : l.high = true := hlevel
  have hn := hhigh hlevel
  simp only [hlevel, if_true]
  split
  · assumption
  · exact hn

end CeilingLine.Carries

/-- R139: the first period of a restored force. -/
theorem CeilingLine.warm_carries (fullScale : Nat) (force : Option Nat) :
    (CeilingLine.warm fullScale force).Carries force :=
  ⟨rfl, rfl, le_rfl, 0, rfl, fun _ => Nat.zero_le _⟩

/-- R138: the first period without one. -/
theorem CeilingLine.cold_carries (fullScale : Nat) : (CeilingLine.cold fullScale).Carries none :=
  CeilingLine.warm_carries fullScale none

/-! ### The part -/

/-- The part operates, and each line carries the granted force of its key. -/
structure State.Carrying (s : State) : Prop where
  operating : s.operating = true
  lines : ∀ l, (s.line l).Carries (s.grantedForce (keyOf l))

/-- R137: every line is held. -/
def State.linesHeld (s : State) : Prop := ∀ l, (s.line l).isHeld = true

section
variable {s t : State}

theorem State.lineTruthful_iff (l : LineName) :
    s.lineTruthful l = true ↔ (s.line l).Carries (s.grantedForce (keyOf l)) := by
  cases htimer : (s.line l).timer with
  | none =>
    refine iff_of_false (by simp [State.lineTruthful, htimer]) fun h => ?_
    obtain ⟨n, hruns, -⟩ := h.timer
    rw [htimer] at hruns
    cases hruns
  | some n =>
    simp only [State.lineTruthful, htimer, Bool.and_eq_true, decide_eq_true_eq, beq_iff_eq, Bool.or_eq_true,
      Bool.not_eq_true', ← Bool.not_eq_true, ← imp_iff_not_or]
    constructor
    · rintro ⟨⟨⟨⟨-, hcarried⟩, hpreset⟩, hcurrent⟩, hhigh⟩
      exact ⟨hcarried, by rw [hpreset, hcarried], hcurrent, n, htimer, hhigh⟩
    · intro h
      obtain ⟨m, hm, hhigh⟩ := h.timer
      obtain rfl : n = m := Option.some.inj (htimer.symm.trans hm)
      exact ⟨⟨⟨⟨h.encodes_le, h.carried⟩, by rw [h.preset, h.carried]⟩, h.current⟩, hhigh⟩

/-- The law, by whether the part operates. -/
theorem State.linesTruthful_iff :
    s.linesTruthful = true ↔ s.Carrying ∨ (s.operating = false ∧ s.linesHeld) := by
  have hall (test : LineName → Bool) : [LineName.cld, .clf, .clr].all test = true ↔ ∀ l, test l = true := by
    refine ⟨fun h l => List.all_eq_true.mp h l (by cases l <;> decide), fun h => List.all_eq_true.mpr fun l _ => h l⟩
  rw [State.linesTruthful, hall]
  cases hop : s.operating with
  | true =>
    simp only [if_true, State.lineTruthful_iff, reduceCtorEq, false_and, or_false]
    exact ⟨fun h => ⟨hop, h⟩, State.Carrying.lines⟩
  | false =>
    simp only [Bool.false_eq_true, if_false, true_and]
    exact ⟨.inr, fun h => h.resolve_left fun hcarrying => by simpa [hop] using hcarrying.operating⟩

namespace State.Carrying

variable (h : s.Carrying)
include h

/-- What moves no line, no grant and no start state. -/
theorem of_eq (hlines : t.lines = s.lines) (hgrants : t.gre.grants = s.gre.grants) (hop : t.operating = s.operating) :
    t.Carrying where
  operating := hop.trans h.operating
  lines := fun l => by
    rw [State.line, hlines, State.grantedForce, State.grant, hgrants]
    exact h.lines l

/-- One line replaced by one that carries the same force. -/
theorem setLine {l : LineName} {x : CeilingLine} (hx : x.Carries (s.grantedForce (keyOf l))) : (s.setLine l x).Carrying where
  operating := h.operating
  lines := fun j => by
    by_cases hj : j = l
    · subst hj; rwa [State.line_setLine_same]
    · rw [State.line_setLine_other _ _ _ _ hj]; exact h.lines j

/-! ### Writes to the table (R102) -/

/-- R102: a granted force that changes is delivered to the key's line, and no other line is touched. -/
theorem writeGrant (k : GrantKey) (g : Option Grant) : (s.writeGrant k g).Carrying where
  operating := (State.operating_of_sup (s.writeGrant_sup k g)).trans h.operating
  lines := fun l => by
    have hl := h.lines l
    simp only [State.writeGrant_line, State.writeGrant_grantedForce, GrantKey.line_eq_some_iff]
    by_cases hk : k = keyOf l
    · subst hk
      rw [if_pos rfl]
      split
      · exact hl.deliver (s.line l).fullScale _
      next hsame =>
        rw [← not_not.mp fun hne => hsame ⟨hne, rfl⟩]
        exact hl
    · rw [if_neg (fun h => hk h.2), if_neg (Ne.symm hk)]
      exact hl

theorem changeGrant (k : GrantKey) (f : Grant → Grant) : (s.changeGrant k f).Carrying := by
  unfold State.changeGrant
  split
  · exact h
  · exact h.writeGrant k _

omit h in
theorem changeGrants (h : s.Carrying) (ks : List GrantKey) (f : GrantKey → Grant → Grant) :
    (s.changeGrants ks f).Carrying := by
  induction ks generalizing s with
  | nil => exact h
  | cons k ks ih => exact ih (h.changeGrant k (f k))

theorem countDownKey (k : GrantKey) : (s.countDownKey k).Carrying := by
  unfold State.countDownKey
  split
  · exact h
  · exact h.writeGrant k _

/-- R83 to R89: every grant counted down, shared and capped. -/
theorem settledGrants : s.settledGrants.Carrying :=
  ((((h.countDownKey _).countDownKey _).countDownKey _).countDownKey _).changeGrants _ _

theorem completeReevaluation : s.completeReevaluation.Carrying := by
  unfold State.completeReevaluation
  split
  · exact h.settledGrants.of_eq rfl rfl rfl
  · exact h

theorem serveGrantRequest (holder : Holder) (r : Request) : (s.serveGrantRequest holder r).Carrying := by
  have hcut (c : Nat) : (s.cutDrive c).Carrying := by
    unfold State.cutDrive
    split
    · exact h
    · exact h.changeGrant _ _
  unfold State.serveGrantRequest
  split
  · exact ((hcut _).writeGrant _ _).of_eq rfl rfl rfl
  all_goals exact h.of_eq rfl rfl rfl

theorem serveGrantRelease (holder : Holder) (r : Request) : (s.serveGrantRelease holder r).Carrying := by
  unfold State.serveGrantRelease
  split
  · split
    · exact (h.writeGrant _ _).of_eq rfl rfl rfl
    · exact h.of_eq rfl rfl rfl
  all_goals exact h.of_eq rfl rfl rfl

theorem useReported (holder : Holder) (r : Request) : (s.useReported holder r).Carrying := by
  unfold State.useReported State.takeReport
  split
  · split
    · exact h
    · exact (h.writeGrant _ _).of_eq rfl rfl rfl
  all_goals exact h

theorem takeService : s.takeService.Carrying := by
  unfold State.takeService
  split
  · split
    · exact h.of_eq rfl rfl rfl
    · exact h.of_eq rfl rfl rfl
    · exact h
  · exact h

/-! ### The monitors (R98, R99) -/

theorem takeTrigger (m : MonitorName) (force : Nat) (target : Word16) : (s.takeTrigger m force target).Carrying :=
  h.of_eq (by simp) (by simp) (State.operating_of_sup (by simp))

theorem clampGrants (m : MonitorName) (x : Monitor) (limit : GrantKey → Nat) : (s.clampGrants m x limit).Carrying :=
  (h.of_eq (t := s.setMonitor m x) rfl rfl rfl).changeGrants _ _

theorem endClamp (m : MonitorName) (x : Monitor) : (s.endClamp m x).Carrying :=
  (h.of_eq (t := s.setMonitor m x) rfl rfl rfl).changeGrants _ _

theorem monitorMove {m : MonitorName} (hmove : MonitorMove m s t) : t.Carrying := by
  cases hmove with
  | rest => exact h
  | write x => exact h.of_eq rfl rfl rfl
  | endClamp x => exact h.endClamp m x
  | soft target => exact (h.clampGrants m _ _).takeTrigger _ _ _
  | hard kind target => exact (h.clampGrants m _ _).takeTrigger _ _ _

theorem monitorTakes {m : MonitorName} (htakes : MonitorTakes m s t) : t.Carrying := by
  obtain ⟨x, hmove⟩ := htakes
  exact (h.of_eq (t := s.setMonitor m x) rfl rfl rfl).monitorMove hmove

theorem publishEstimate : s.publishEstimate.Carrying := by
  by_cases hidle : s.leu.work = .idle
  · simpa only [State.publishEstimate, hidle, if_true] using h
  · rw [State.publishEstimate_eq hidle]
    have hstart := h.of_eq (t := (s.setLeu { s.computed with published := some s.estimated }).setGbu
      { s.gbu with working := true, read := none }) rfl rfl rfl
    exact ((hstart.monitorTakes (State.monitorPublication_takes _ .rearSpin _)).monitorTakes
      (State.monitorPublication_takes _ .rearLock _)).monitorTakes (State.monitorPublication_takes _ .frontLock _)

theorem captureTooth (w : Wheel) (edge : Nat) : (s.captureTooth w edge).Carrying := by
  have hwheel (x : WheelInput) : (s.setWheel w x).Carrying := h.of_eq rfl rfl rfl
  unfold State.captureTooth State.handOnCapture
  dsimp only
  split
  · exact (hwheel _).monitorTakes (State.monitorCapture_takes _ _ _ _ _)
  · exact ((hwheel _).monitorTakes (State.monitorCapture_takes _ _ _ _ _)).monitorTakes
      (State.monitorCapture_takes _ _ _ _ _)

theorem lockWindowExpires (m : MonitorName) : (s.lockWindowExpires m).Carrying := by
  unfold State.lockWindowExpires
  split
  · exact h
  · dsimp only
    split
    · exact h.monitorTakes ⟨_, .hard _ _⟩
    · exact h.of_eq rfl rfl rfl

theorem serveClampClear (p : PortName) (r : Request) : (s.serveClampClear p r).Carrying := by
  have hcleared : (s.clampCleared r).Carrying := by
    unfold State.clampCleared
    split
    · exact h
    · exact h.endClamp _ _
  unfold State.serveClampClear
  split
  · exact hcleared.of_eq rfl rfl rfl
  · exact h.of_eq rfl rfl rfl

theorem serveShiftNotice : s.serveShiftNotice.Carrying := by
  unfold State.serveShiftNotice State.shiftNoticed
  split
  · split
    all_goals exact h.of_eq rfl rfl rfl
  · exact h.of_eq rfl rfl rfl

/-! ### The ports (R100, R101) -/

theorem linkPresence (p : PortName) : (s.linkPresence p).Carrying := by
  have hport (x : Port) : (s.setPort p x).Carrying := h.of_eq rfl rfl rfl
  unfold State.linkPresence
  split
  · exact hport _
  · exact (hport _).changeGrants _ _

theorem arrive (p : PortName) (r : Request) : (s.arrive p r).Carrying := by
  unfold State.arrive
  dsimp only
  split
  · exact h.linkPresence p
  · exact (h.linkPresence p).of_eq rfl rfl rfl

theorem endFrame (p : PortName) : (s.endFrame p).Carrying := by
  have hport (x : Port) : (s.setPort p x).Carrying := h.of_eq rfl rfl rfl
  unfold State.endFrame
  dsimp only
  split
  · exact hport _
  · exact (hport _).arrive p _

theorem byteArrives (p : PortName) (byte : Byte) (fault : Bool) : (s.byteArrives p byte fault).Carrying := by
  unfold State.byteArrives
  split
  · split
    · exact h.of_eq rfl rfl rfl
    · exact (h.endFrame p).of_eq rfl rfl rfl
  all_goals exact h.of_eq rfl rfl rfl

theorem frameEnds (p : PortName) : (s.frameEnds p).Carrying := by
  unfold State.frameEnds
  split
  · exact h.endFrame p
  all_goals exact h

theorem linkHeld (p : PortName) : (s.linkHeld p).Carrying := by
  unfold State.linkHeld
  split
  · exact h.endFrame p
  · exact h.arrive p _

theorem serveCheckTest (p : PortName) (r : Request) : (s.serveCheckTest p r).Carrying := by
  unfold State.serveCheckTest
  split
  all_goals exact h.of_eq rfl rfl rfl

theorem silenceRises (p : PortName) : (s.silenceRises p).Carrying := by
  have hport : (s.setPort p (s.port p).silenceRises).Carrying := h.of_eq rfl rfl rfl
  have hfrozen : ((s.setPort p (s.port p).silenceRises).freezeGrants p).Carrying := hport.changeGrants _ _
  unfold State.silenceRises
  dsimp only
  split
  · split
    · exact hfrozen.of_eq rfl rfl rfl
    · exact hfrozen
  · exact hport

theorem cycleTimerExpires : s.cycleTimerExpires.Carrying := by
  cases htimer : s.leu.cycleTimer with
  | none => simpa only [State.cycleTimerExpires, htimer] using h
  | some n =>
    rw [State.cycleTimerExpires_of_running htimer]
    exact (((h.of_eq (t := s.timerRestarts) rfl rfl rfl).silenceRises .e).silenceRises .b).silenceRises .c

/-! ### Samples, budgets, ride settings, the store -/

theorem endSensorWait : s.endSensorWait.Carrying := ⟨rfl, h.lines⟩

theorem transactionCompletes (block : Vector Byte 16) : (s.transactionCompletes block).Carrying := by
  have hcompleted {u : State} (hu : u.Carrying) : u.sampleCompleted.Carrying := by
    refine ⟨?_, by rw [u.sampleCompleted_eq]; exact hu.lines⟩
    rw [State.sampleCompleted_eq]
    by_cases hends : u.sup.start = .sensorWait ∧ u.sif.sample.imuValid = true
    · simp only [State.operating, if_pos hends]
    · simp only [if_neg hends]; exact hu.operating
  unfold State.transactionCompletes
  split
  · exact hcompleted (h.of_eq rfl rfl rfl)
  · exact h

theorem rewriteCompletes : s.rewriteCompletes.Carrying := by
  unfold State.rewriteCompletes
  split
  · exact h
  · exact h.of_eq rfl rfl rfl

theorem publishBudget : s.publishBudget.Carrying := by
  unfold State.publishBudget
  split
  · split
    · exact h
    · rw [State.computeBudget_eq]
      exact h.of_eq rfl rfl rfl
  · exact h

theorem profileSetServed (r : Request) : (s.profileSetServed r).Carrying := by
  unfold State.profileSetServed State.profileSetAt State.serveProfileSet
  split
  all_goals exact h.of_eq rfl rfl rfl

theorem sampleService (high : Bool) : (s.sampleService high).Carrying := by
  unfold State.sampleService
  dsimp only
  split
  all_goals exact h.of_eq rfl rfl rfl

theorem setCst (x : Cst) : (s.setCst x).Carrying := h.of_eq rfl rfl rfl

theorem answerCalibration (kind : MessageKind) (code : ReplyCode) (rest : List Byte) :
    (s.answerCalibration kind code rest).Carrying := h.of_eq rfl rfl rfl

theorem serveOpen : s.serveOpen.Carrying := by
  unfold State.serveOpen
  split
  · exact (h.setCst _).answerCalibration _ _ _
  · exact h.answerCalibration _ _ _

theorem wipeNext (left : ArrayLeft) : (s.wipeNext left).Carrying := by
  unfold State.wipeNext
  split
  · split
    · exact h.setCst _
    · exact h
  all_goals exact h

theorem wipeCompletes : s.wipeCompletes.Carrying := by
  unfold State.wipeCompletes
  split
  · split
    · exact (h.setCst _).answerCalibration _ _ _
    · exact h
  all_goals exact h

/-! ### The load and the time base (R131, R139) -/

/-- R139: each line takes its full scale with the force that it carries. -/
theorem loadCompletes : s.loadCompletes.Carrying := by
  unfold State.loadCompletes
  split
  · refine ⟨rfl, fun l => ?_⟩
    have hforce : (State.loadedGre s s.cst.flash.load).grants = s.gre.grants := by
      unfold State.loadedGre
      split <;> rfl
    rw [State.grantedForce, State.grant, hforce]
    cases l with
    | cld => exact (h.lines .cld).reloaded _
    | clf => exact (h.lines .clf).reloaded _
    | clr => exact (h.lines .clr).reloaded _
  · exact h

theorem ticked : s.ticked.Carrying := by
  refine ⟨h.operating, fun l => ?_⟩
  rw [State.ticked_line]
  exact (h.lines l).tick

end State.Carrying

end
end Sys2Proof.Machine
end

section
/-! PROOF. O11: an operating part's lines carry their forces, a held part's are held. The commands of the operating part keep
the first and leave a held part alone; a hold's start holds the lines, and a release starts their periods. -/
namespace Sys2Proof.Machine

section
variable {s : State}

/-! ### Holds and releases (R137 to R139) -/

theorem State.linesTruthful_of_held (hop : s.operating = false) (hheld : s.linesHeld) : s.linesTruthful = true :=
  State.linesTruthful_iff.mpr (.inr ⟨hop, hheld⟩)

theorem State.linesHeld_of_truthful (hs : s.linesTruthful = true) (hop : s.operating = false) : s.linesHeld := by
  rcases State.linesTruthful_iff.mp hs with hcarrying | ⟨-, hheld⟩
  · simpa [hop] using hcarrying.operating
  · exact hheld

theorem State.stopBlocks_line (s : State) (l : LineName) : s.stopBlocks.line l = (s.line l).held := PerLine.get_map _ _ _

theorem State.stopBlocks_linesHeld (s : State) : s.stopBlocks.linesHeld := fun l => by
  rw [State.stopBlocks_line]; rfl

theorem State.stopped_linesHeld (hs : s.linesTruthful = true) : s.stopped.linesHeld := by
  unfold State.stopped
  split
  · exact s.stopBlocks_linesHeld
  next hop => exact State.linesHeld_of_truthful hs (Bool.eq_false_of_not_eq_true hop)

/-- What moves no line, no grant and no start state. -/
theorem State.linesTruthful_of_eq {t : State} (hlines : t.lines = s.lines) (hgrants : t.gre.grants = s.gre.grants)
    (hop : t.operating = s.operating) (hs : s.linesTruthful = true) : t.linesTruthful = true := by
  refine State.linesTruthful_iff.mpr ((State.linesTruthful_iff.mp hs).imp (fun h => h.of_eq hlines hgrants hop) ?_)
  rintro ⟨hheld, hlow⟩
  exact ⟨hop.trans hheld, fun l => by rw [State.line, hlines]; exact hlow l⟩

/-- A sense that changes with the start state as it was. -/
theorem State.setSup_linesTruthful {x : Sup} (hx : x.start = s.sup.start) (hs : s.linesTruthful = true) :
    (s.setSup x).linesTruthful = true :=
  State.linesTruthful_of_eq (s := s) rfl rfl (State.setSup_operating hx) hs

theorem State.enterReset_linesTruthful (hs : s.linesTruthful = true) (cause : EntryCause) :
    (s.enterReset cause).linesTruthful = true := by
  unfold State.enterReset
  split
  · exact State.linesTruthful_of_held rfl s.stopBlocks_linesHeld
  · exact hs

theorem State.enterOff_linesTruthful (hs : s.linesTruthful = true) : s.enterOff.linesTruthful = true :=
  State.linesTruthful_of_held rfl (State.stopped_linesHeld hs)

/-- R138: without a record no line has a force to carry. -/
theorem State.releaseCold_carrying (s : State) : s.releaseCold.Carrying := by
  refine ⟨rfl, fun l => ?_⟩
  rw [State.releaseCold_grantedForce]
  cases l <;> exact CeilingLine.cold_carries _

/-- R139: each line carries the restored force of its key. -/
theorem State.releaseWarm_carrying (s : State) (c : RecordContents) : (s.releaseWarm c).Carrying := by
  refine ⟨rfl, fun l => ?_⟩
  rw [State.releaseWarm_line]
  exact CeilingLine.warm_carries _ _

theorem State.release_linesTruthful (s : State) : s.release.linesTruthful = true := by
  refine State.linesTruthful_iff.mpr (.inl ?_)
  unfold State.release
  split
  · exact s.releaseWarm_carrying _
  · exact s.releaseCold_carrying

theorem State.holdEnds_linesTruthful (hs : s.linesTruthful = true) : s.holdEnds.linesTruthful = true := by
  unfold State.holdEnds
  split
  · exact s.release_linesTruthful
  · exact hs

theorem State.offEnds_linesTruthful (hs : s.linesTruthful = true) : s.offEnds.linesTruthful = true := by
  unfold State.offEnds
  split
  next hoff =>
    have hheld := State.linesHeld_of_truthful hs (State.not_operating_of_off hoff)
    exact State.holdEnds_linesTruthful (s := s.setSup { s.sup with start := .reset })
      (State.linesTruthful_of_held rfl hheld)
  next => exact hs

/-! ### The supervisor's senses (R180 to R186) -/

theorem State.supplySampled_linesTruthful (hs : s.linesTruthful = true) (mv : Nat) :
    (s.supplySampled mv).linesTruthful = true := by
  have hwarning : (s.sampleWarning mv).linesTruthful = true := by
    obtain ⟨low, count, hsample⟩ := s.sup.sampleWarning_eq mv
    refine State.whileOperating_keeps (P := fun u => u.linesTruthful = true) hs (State.setSup_linesTruthful ?_ hs)
    rw [hsample]
  unfold State.supplySampled
  generalize s.sampleWarning mv = u at hwarning ⊢
  obtain ⟨tripped, count, hsample⟩ := u.sup.sampleLoss_eq mv
  have hloss : (u.setSup (u.sup.sampleLoss mv)).linesTruthful = true :=
    State.setSup_linesTruthful (by rw [hsample]) hwarning
  unfold State.sampleLoss
  dsimp only
  split_ifs
  · exact State.enterReset_linesTruthful hloss _
  · exact State.holdEnds_linesTruthful hloss
  · exact hloss

theorem State.retainedTick_linesTruthful (hs : s.linesTruthful = true) (high : Bool) :
    (s.retainedTick high).linesTruthful = true := by
  have houtage : s.outageTicked.linesTruthful = true := by
    unfold State.outageTicked
    split
    · exact hs
    · exact State.setSup_linesTruthful (by rfl) hs
  unfold State.retainedTick
  generalize s.outageTicked = u at houtage ⊢
  obtain ⟨level, count, hsample⟩ := u.sup.sampleIgnition_eq high
  have hignition : (u.setSup (u.sup.sampleIgnition high)).linesTruthful = true :=
    State.setSup_linesTruthful (by rw [hsample]) houtage
  unfold State.ignitionSampled
  dsimp only
  split_ifs
  · exact State.enterOff_linesTruthful hignition
  · exact State.offEnds_linesTruthful hignition
  · exact hignition

theorem exec_supervision_linesTruthful {c : Instr} (hc : c.isSupervision = true) (hs : s.linesTruthful = true) :
    LeadsTo (fun t => t.linesTruthful = true) (exec c s) := by
  have hsensed {x : Sup} (hx : x.start = s.sup.start) := State.setSup_linesTruthful hx hs
  cases c with
  | supplySample mv => exact leadsTo_go (State.supplySampled_linesTruthful hs mv)
  | supplyLossTrip mv => exact leadsTo_occurring hs (State.supplySampled_linesTruthful hs mv)
  | supplyLossClear mv => exact leadsTo_occurring hs (State.supplySampled_linesTruthful hs mv)
  | lowSupplySet mv => exact leadsTo_occurring hs (State.supplySampled_linesTruthful hs mv)
  | lowSupplyClear mv => exact leadsTo_occurring hs (State.supplySampled_linesTruthful hs mv)
  | rstNAssert =>
    refine leadsTo_go (State.enterReset_linesTruthful (hsensed ?_) _)
    rfl
  | mainDomainPowerUp =>
    refine leadsTo_go (State.enterReset_linesTruthful (hsensed ?_) _)
    rfl
  | rstNRelease =>
    refine leadsTo_go ?_
    split
    · exact State.holdEnds_linesTruthful (hsensed rfl)
    · exact hs
  | retainedMsTick high => exact leadsTo_go (State.retainedTick_linesTruthful hs high)
  | ignitionOff => exact leadsTo_occurring hs (State.retainedTick_linesTruthful hs false)
  | ignitionOn => exact leadsTo_occurring hs (State.retainedTick_linesTruthful hs true)
  | retainedDomainPowerUp => exact leadsTo_go (State.linesTruthful_of_held rfl (State.stopped_linesHeld hs))
  | _ => cases hc

/-! ### The operating part -/

/-- What happens only at an operating part keeps the law where it keeps the lines carrying. -/
theorem State.whileOperating_linesTruthful {t : State} (hs : s.linesTruthful = true) (h : s.Carrying → t.Carrying) :
    (s.whileOperating t).linesTruthful = true := by
  rcases State.linesTruthful_iff.mp hs with hcarrying | ⟨hop, -⟩
  · rw [State.whileOperating_of_operating hcarrying.operating]
    exact State.linesTruthful_iff.mpr (.inl (h hcarrying))
  · rwa [State.whileOperating, hop]

/-- R184: every start state but OFF and RESET is that of an operating part. -/
theorem State.carrying_of_start {x : StartState} (hs : s.linesTruthful = true) (hstart : s.sup.start = x)
    (hx : x ≠ .off ∧ x ≠ .reset) : s.Carrying := by
  refine (State.linesTruthful_iff.mp hs).resolve_right fun hheld => ?_
  simpa [hheld.1] using State.operating_of_start hstart hx

theorem exec_linesTruthful (c : Instr) (hs : s.linesTruthful = true) :
    LeadsTo (fun t => t.linesTruthful = true) (exec c s) := by
  by_cases hsupervision : c.isSupervision = true
  · exact exec_supervision_linesTruthful hsupervision hs
  have hwhile {t : State} (h : s.Carrying → t.Carrying) := State.whileOperating_linesTruthful hs h
  have hoperating {t : State} (h : s.Carrying → t.Carrying) :
      LeadsTo (fun u => u.linesTruthful = true) (go (s.whileOperating t)) := leadsTo_go (hwhile h)
  have hoccurring {t : State} (occurs : Bool) (h : s.Carrying → t.Carrying) :
      LeadsTo (fun u => u.linesTruthful = true) (occurring occurs (s.whileOperating t) s) :=
    leadsTo_occurring hs (hwhile h)
  have hcalibration {kind : MessageKind} {carryOut : Request → State} (hlines : ∀ r, (carryOut r).lines = s.lines)
      (hgrants : ∀ r, (carryOut r).gre.grants = s.gre.grants) (hop : ∀ r, (carryOut r).operating = s.operating) :=
    leadsTo_serveCalibration_of (P := fun t => t.linesTruthful = true) (kind := kind) hs
      (fun _ _ _ => State.linesTruthful_of_eq rfl rfl rfl hs)
      fun r => State.linesTruthful_of_eq (hlines r) (hgrants r) (hop r) hs
  cases c with
  | cycleTimerExpiry => exact hoperating State.Carrying.cycleTimerExpires
  | silenceCountExpiry p => exact hoccurring _ State.Carrying.cycleTimerExpires
  | transactionCompletion block => exact hoperating (·.transactionCompletes block)
  | estimatePublication => exact hoperating State.Carrying.publishEstimate
  | coastCountExpiry => exact hoccurring _ State.Carrying.publishEstimate
  | settlingGoodCountReached => exact hoccurring _ State.Carrying.publishEstimate
  | delayCountExpiry m => exact hoccurring _ State.Carrying.publishEstimate
  | softHoldExpiry m => exact hoccurring _ State.Carrying.publishEstimate
  | blankingExpiry m => exact hoccurring _ State.Carrying.publishEstimate
  | hardAutoEnd m => exact hoccurring _ State.Carrying.publishEstimate
  | budgetPublication => exact hoperating State.Carrying.publishBudget
  | greServiceTake => exact hoperating State.Carrying.takeService
  | reevaluationCompletion => exact hoperating State.Carrying.completeReevaluation
  | grantCountdownExpiry k => exact hoccurring _ State.Carrying.completeReevaluation
  | retainedRewriteCompletion => exact hoperating State.Carrying.rewriteCompletes
  | linePeriodStart l => exact hoperating fun h => h.setLine (h.lines l).periodStart
  | linePulseEnd l => exact hoperating fun h => h.setLine (h.lines l).pulseEnd
  | toothCapture w edge => exact hoperating (·.captureTooth w edge)
  | wheelRevalidated w edge => exact hoccurring _ (·.captureTooth w edge)
  | silenceExpiry w => exact hoperating (·.of_eq rfl rfl rfl)
  | lockWindowExpiry m => exact hoperating (·.lockWindowExpires m)
  | receiveReadyExpiry p => exact hoperating (·.of_eq rfl rfl rfl)
  | frameReceived p => exact hoperating (·.frameEnds p)
  | byteReceived p byte fault => exact hoperating (·.byteArrives p byte fault)
  | linkHold p => exact hoperating (·.linkHeld p)
  | transmitGapExpiry p => exact hoperating (·.of_eq rfl rfl rfl)
  | frameSent p => exact hoperating (·.of_eq rfl rfl rfl)
  | grantRequest =>
    simp only [exec, execGrantRequest]
    split
    · exact leadsTo_go hs
    · exact hoperating (·.serveGrantRequest _ _)
  | grantRelease =>
    simp only [exec, execGrantRelease]
    split
    · exact leadsTo_go hs
    · exact hoperating (·.serveGrantRelease _ _)
  | useReport =>
    simp only [exec, execUseReport]
    split
    · exact leadsTo_go hs
    · exact hoperating fun h => (h.useReported _ _).of_eq rfl rfl rfl
  | clampClear p =>
    simp only [exec, execClampClear]
    split
    · exact leadsTo_go hs
    · exact hoperating (·.serveClampClear p _)
  | shiftNotice =>
    simp only [exec, execShiftNotice]
    split
    · exact leadsTo_go hs
    · exact hoperating State.Carrying.serveShiftNotice
  | profileSet =>
    simp only [exec, execProfileSet]
    split
    · exact leadsTo_go hs
    · exact hoperating (·.profileSetServed _)
  | checkTest p =>
    simp only [exec, execCheckTest]
    split
    · exact leadsTo_go hs
    · exact hoperating (·.serveCheckTest p _)
  | calOpen =>
    simp only [exec, execCalOpen]
    split
    · exact leadsTo_go hs
    · exact hoperating State.Carrying.serveOpen
  | calClose => exact hcalibration (fun _ => rfl) (fun _ => rfl) fun _ => rfl
  | calRead => exact hcalibration (fun _ => rfl) (fun _ => rfl) fun _ => rfl
  | calErase => exact hcalibration (fun _ => rfl) (fun _ => rfl) fun _ => rfl
  | calProgram => exact hcalibration (fun _ => rfl) (fun _ => rfl) fun _ => rfl
  | calLock => exact hcalibration (fun _ => rfl) (fun _ => rfl) fun _ => rfl
  | calWipe => exact hcalibration (fun _ => rfl) (fun _ => rfl) fun _ => rfl
  | calEraseCompletion left =>
    simp only [exec, execCalEraseCompletion]
    split
    · exact hoperating fun h => (h.setCst _).answerCalibration _ _ _
    all_goals exact leadsTo_go hs
  | calProgramCompletion left =>
    simp only [exec, execCalProgramCompletion]
    split
    · exact hoperating fun h => (h.setCst _).answerCalibration _ _ _
    all_goals exact leadsTo_go hs
  | calLockCompletion left =>
    simp only [exec, execCalLockCompletion]
    split
    · exact hoperating fun h => (h.setCst _).answerCalibration _ _ _
    all_goals exact leadsTo_go hs
  | wipeSectorEraseCompletion left => exact hoperating (·.wipeNext left)
  | calWipeCompletion left =>
    refine hoperating fun h => ?_
    split
    · exact (h.wipeNext left).wipeCompletes
    · exact h.wipeCompletes
  | loadCompletion =>
    refine leadsTo_go ?_
    by_cases hloading : s.sup.start = .loading
    · exact State.linesTruthful_iff.mpr (.inl (State.carrying_of_start hs hloading (by decide)).loadCompletes)
    · rwa [State.loadCompletes, if_neg hloading]
  | sensorWaitExpiry =>
    refine leadsTo_go ?_
    split
    next hwaiting =>
      exact State.linesTruthful_iff.mpr (.inl (State.carrying_of_start hs hwaiting (by decide)).endSensorWait)
    next => exact hs
  | svcSample high => exact hoperating (·.sampleService high)
  | svcAsserted => exact hoccurring _ (·.sampleService true)
  | svcReleased => exact hoccurring _ (·.sampleService false)
  | _ => exact absurd rfl hsupervision

end

/-- Settles O11: each command keeps the law (`exec_linesTruthful`), and so does the microsecond of an empty queue. -/
theorem linesTruthfulKept : Obligations.LinesTruthfulKept := by
  intro s t hstep hs
  unfold step at hstep
  split at hstep
  next c rest _ => exact exec_linesTruthful (s := s.setPending rest) c hs t hstep
  next =>
    obtain rfl : s.tick = t := by simpa using hstep
    exact State.whileOperating_linesTruthful hs State.Carrying.ticked

/-! ### The reset -/

theorem State.reset_carrying : State.reset.Carrying := by
  refine ⟨rfl, fun l => ?_⟩
  cases l <;> exact CeilingLine.cold_carries _

/-- Settles O6: at reset no key holds a grant and nothing is recorded, so the laws of the grants hold; the lines carry
nothing; every other law is a test of the start values. -/
theorem resetKeepsLaws : Obligations.ResetKeepsLaws := by
  have hgrant (k : GrantKey) : State.reset.grant k = none := by cases k <;> rfl
  have hrecord (test : RecordContents → Bool) : State.reset.sup.eachContents test = true := rfl
  have hforce (k : GrantKey) : (State.reset.grantedForce k).getD 0 = 0 := by simp [State.grantedForce, hgrant]
  refine ⟨rfl, State.grantsBounded_iff.mpr ⟨fun k g hg => ?_, hrecord _⟩,
    State.withinBudget_iff.mpr ⟨fun _ => .inr fun w => ?_, hrecord _⟩,
    State.hardHoldsNothing_iff.mpr ⟨fun k _ => hforce k, hrecord _⟩,
    State.linesTruthful_iff.mpr (.inl State.reset_carrying), rfl, rfl, rfl, rfl, rfl⟩
  · rw [hgrant] at hg; cases hg
  · simp [State.grantedOn, wheelSum, hforce]

end Sys2Proof.Machine
end

section
/-! SUPPORT. What a stop of the blocks leaves, once and for all: a flash operation cut short spoils its own sector alone, the
supervisor's record stands or is lost with its rewrite, and every block rests where it stood. -/
namespace Sys2Proof.Machine

/-! ### The flash (R177) -/

/-- Target bytes spoiled in a sector leave every other sector as it was. -/
theorem Memory.read_spoil_outside {m : Memory} {k : Sector} {offset b : Nat} (bytes : List Byte) (hm : m.wf = true)
    (hb : b < k.base ∨ k.base + 256 ≤ b) : (m.spoil k offset bytes).read b = m.read b := by
  have hwrite {n : Memory} (hn : n.wf = true) (bytes : List Byte) : (n.writeSector k offset bytes).read b = n.read b :=
    Memory.read_writeSector_outside hn (by omega)
  simp only [Memory.spoil]
  split
  · rw [hwrite (Memory.writeSector_wf k offset bytes hm), hwrite hm]
  · exact hwrite hm _

/-- An operation cut short spoils bytes of the sector it acts on. -/
theorem Memory.cutShort_eq_spoil (m : Memory) (use : Nat) {o : FlashOperation} {k : Sector} (h : o.target = some k) :
    ∃ offset bytes, offset < 256 ∧ m.cutShort use o = m.spoil k offset bytes := by
  cases o with
  | erase j => cases h; exact ⟨0, _, by decide, rfl⟩
  | program j offset bytes =>
    simp only [FlashOperation.target, Option.ite_none_right_eq_some] at h
    obtain ⟨hoffset, ⟨⟩⟩ := h
    exact ⟨offset, _, hoffset, rfl⟩
  | lock => cases h; exact ⟨0, _, by decide, rfl⟩
  | wipe erased clean =>
    have h : wipeSector erased = some k := h
    exact ⟨0, _, by decide, by simp only [Memory.cutShort, h]; rfl⟩

theorem Memory.cutShort_spec {m : Memory} (use : Nat) {o : FlashOperation} {k : Sector} (hm : m.wf = true)
    (h : o.target = some k) :
    (m.cutShort use o).passes k = false
      ∧ ∀ a, a < k.base ∨ k.base + 256 ≤ a → (m.cutShort use o).read a = m.read a := by
  obtain ⟨offset, bytes, hoffset, hspoil⟩ := m.cutShort_eq_spoil use h
  rw [hspoil]
  exact ⟨Memory.spoil_fails bytes hm hoffset, fun a ha => Memory.read_spoil_outside bytes hm ha⟩

/-! ### The store and the supervisor (R177, R191) -/

theorem Cst.stopped_none {x : Cst} (h : x.operation = none) (use : Nat) : x.stopped use = x := by
  simp only [Cst.stopped, h]

theorem Cst.stopped_some {x : Cst} {o : OperationInFlight} (h : x.operation = some o) (use : Nat) :
    x.stopped use = { x with flash := x.flash.cutShort use o.operation, operation := none } := by
  simp only [Cst.stopped, h]

/-- The store stops: no operation is in flight, and nothing but its flash has moved. -/
theorem Cst.stopped_frame (x : Cst) (use : Nat) :
    x.stopped use = { x with flash := (x.stopped use).flash, operation := none } := by
  cases h : x.operation with
  | none => rw [Cst.stopped_none h, ← h]
  | some o => rw [Cst.stopped_some h]

theorem Sup.stopped_eq (x : Sup) :
    x.stopped = { x with sensorWait := none, rewrite := none, record := x.recordStopped } := by
  unfold Sup.stopped Sup.recordStopped
  cases h : x.rewrite with
  | none => rfl
  | some c => rfl

/-! ### The blocks (R19, R42, R64, R75, R105, R127, R137, R161) -/

section
variable {s : State} {x : Sup}

/-- What the stopped blocks hold, whatever the supervisor then says of the start state and its cause. -/
theorem State.stopBlocks_stoppedWith (hwait : x.sensorWait = none) (hrewrite : x.rewrite = none) :
    (s.stopBlocks.setSup x).stoppedWith x.start x.entry := by
  refine ⟨rfl, rfl, s.stopBlocks_linesHeld, fun p => ?_, rfl, rfl, rfl, rfl, rfl, rfl, rfl, rfl, rfl, fun m => ?_, ?_,
    hrewrite, hwait⟩
  · cases p <;> exact ⟨rfl, rfl, rfl, rfl, rfl, rfl⟩
  · cases m <;> rfl
  · exact congrArg Cst.operation (s.cst.stopped_frame s.freeCount)

/-- What the stopped blocks keep. -/
theorem State.stopBlocks_standsFrom (s : State) (x : Sup) : (s.stopBlocks.setSup x).standsFrom s := by
  refine ⟨rfl, rfl, rfl, rfl, rfl, fun m => PerMonitor.get_map _ _ _, s.stopBlocks_line, fun p => PerPort.get_map _ _ _,
    s.cst.stopped_frame s.freeCount, fun hidle => ?_, fun hwf o k ho htarget => ?_⟩
  · exact congrArg Cst.flash (Cst.stopped_none hidle s.freeCount)
  · have hflash : (s.stopBlocks.setSup x).cst.flash = s.cst.flash.cutShort s.freeCount o.operation :=
      congrArg Cst.flash (Cst.stopped_some ho s.freeCount)
    rw [hflash]
    exact Memory.cutShort_spec s.freeCount hwf htarget

end
end Sys2Proof.Machine
end

section
/-! PROOF. O56: each of the three commands changes a sense and then enters RESET, which stops the blocks of an operating part
and leaves a held one alone. -/
namespace Sys2Proof.Machine

/-- The supervisor after an entry into RESET (R181, R184, R191). -/
def Sup.resetEntered (x : Sup) (cause : EntryCause) : Sup :=
  { x with start := .reset, entry := cause, sensorWait := none, rewrite := none, record := x.recordStopped }

section
variable {s : State} {x : Sup} {cause : EntryCause}

/-! ### The entry -/

theorem State.enterReset_eq (hop : s.operating = true) (hx : x.start = s.sup.start) :
    (s.setSup x).enterReset cause = s.stopBlocks.setSup (x.resetEntered cause) := by
  have hstopped : (s.setSup x).stopBlocks.sup = x.stopped := rfl
  rw [State.enterReset, if_pos ((State.setSup_operating hx).trans hop), hstopped, Sup.stopped_eq]
  rfl

/-- An operating part whose sense has changed enters RESET. -/
theorem State.enterReset_enters (hop : s.operating = true) (hx : x.start = s.sup.start) :
    ((s.setSup x).enterReset cause).stoppedWith .reset cause ∧ ((s.setSup x).enterReset cause).standsFrom s
      ∧ ((s.setSup x).enterReset cause).sup = x.resetEntered cause := by
  rw [State.enterReset_eq hop hx]
  exact ⟨State.stopBlocks_stoppedWith rfl rfl, s.stopBlocks_standsFrom _, rfl⟩

/-- R184: a part held already keeps its start state and its cause (log 21). -/
theorem State.enterReset_of_held (hheld : s.operating = false) : s.enterReset cause = s := by
  rw [State.enterReset, hheld]; rfl

/-! ### The supply (R180, R181) -/

/-- R181: the warning comparator at a sample that lies below every level. -/
theorem Sup.sampleWarning_below {mv : Nat} (hmv : mv < 6000) :
    x.sampleWarning mv = { x with
      low := x.low || decide (3 ≤ x.lowCount)
      lowCount := if x.low = true ∨ 3 ≤ x.lowCount then 0 else x.lowCount + 1 } := by
  have hlevel : 6000 ≤ x.level.millivolts := by cases x.level <;> decide
  unfold Sup.sampleWarning
  cases hlow : x.low with
  | true => simp [show ¬x.level.millivolts + 300 < mv by omega]
  | false =>
    by_cases hcount : 3 ≤ x.lowCount
    · simp [show mv < x.level.millivolts by omega, hcount]
    · simp [show mv < x.level.millivolts by omega, hcount]

/-- The supervisor at the sample at which the supply is lost, before the entry: the warning comparator has sampled first
(log 19). -/
def Sup.supplyLost (x : Sup) : Sup :=
  { x with
    tripped := true, tripCount := 0
    low := x.low || decide (3 ≤ x.lowCount)
    lowCount := if x.low = true ∨ 3 ≤ x.lowCount then 0 else x.lowCount + 1 }

theorem State.supplySampled_trips {mv : Nat} (hop : s.operating = true) (htripped : s.sup.tripped = false)
    (hcount : s.sup.tripCount = 1) (hmv : mv < 6000) :
    s.supplySampled mv = (s.setSup s.sup.supplyLost).enterReset .supplyLoss := by
  have hloss : (s.sup.sampleWarning mv).sampleLoss mv = s.sup.supplyLost := by
    simp [Sup.sampleWarning_below hmv, Sup.sampleLoss, Sup.supplyLost, htripped, hcount, hmv]
  have hbefore : (s.sup.sampleWarning mv).tripped = false := by rw [Sup.sampleWarning_below hmv]; exact htripped
  rw [State.supplySampled, State.sampleWarning, State.whileOperating_of_operating hop, State.sampleLoss]
  simp only [State.setSup_sup, State.setSup_setSup, hloss, hbefore]
  rfl

/-- The row of the trip is the sample it falls at (log 2). -/
theorem exec_supplyTrips {mv : Nat} (hop : s.operating = true) (htripped : s.sup.tripped = false)
    (hcount : s.sup.tripCount = 1) (hmv : mv < 6000) :
    let t := (s.setSup s.sup.supplyLost).enterReset .supplyLoss
    exec (.supplyLossTrip mv) s = .next t ∧ exec (.supplySample mv) s = .next t := by
  have hsampled := State.supplySampled_trips hop htripped hcount hmv
  have htrips : ((s.setSup s.sup.supplyLost).enterReset .supplyLoss).sup.tripped = true := by
    rw [State.enterReset_eq (x := s.sup.supplyLost) hop rfl]; rfl
  constructor
  · simp only [exec, execSupplyLossTrip, hsampled, occurring, htripped, htrips]
    rfl
  · simp only [exec, execSupplySample, hsampled, go]

end

/-- Settles O56: at an operating part each command is an entry (`State.enterReset_enters`), at a held one a sense alone. -/
theorem entersReset : Obligations.EntersReset := by
  refine ⟨fun s hop => ⟨fun mv htripped hcount hmv => ?_, ?_, ?_⟩, fun s hheld => ⟨?_, ?_⟩⟩
  · obtain ⟨htrip, hsample⟩ := exec_supplyTrips hop htripped hcount hmv
    exact ⟨_, htrip, hsample, State.enterReset_enters hop rfl⟩
  · exact ⟨_, rfl, State.enterReset_enters hop rfl⟩
  · exact ⟨_, rfl, State.enterReset_enters hop rfl⟩
  · exact congrArg go (State.enterReset_of_held (s := s.setSup _) hheld)
  · exact congrArg go (State.enterReset_of_held (s := s.setSup _) hheld)

end Sys2Proof.Machine
end

section
/-! PROOF. O13: what a port keeps, operation by operation. Replies join only where an outstanding head waits for one, and that
head has kept a place free; Port C comes UP without the replies handed over before. -/
namespace Sys2Proof.Machine

/-! ### What a port keeps (R145, R146, R152, R154, R170, R195) -/

/-- A port within its capacities. `busy` is the kind of the request that a flash operation in flight serves, which stays
outstanding at Port C. -/
structure Port.Kept (x : Port) (p : PortName) (busy : Option MessageKind) : Prop where
  queue : x.queue.length ≤ 4
  replies : x.replies.length ≤ 4
  bytes : x.receiver.bytes.length ≤ 31
  checkTest : x.checkTest ≤ 8
  badFrames : x.badFrames ≤ 255
  discards : x.discards ≤ 255
  slot : ∀ payload, x.slot = some payload → 30 ≤ payload.length ∧ payload.length ≤ 54
  place : x.outstanding = true → ∃ q, x.queue.head? = some q ∧ (q.kind = .useReport ∨ x.replies.length < 4)
  present : p = .c → x.state = .up → ∀ r ∈ x.replies, r.away = false
  serving : p = .c → ∀ kind, busy = some kind → ∃ q, x.served = some q ∧ q.kind = kind

theorem Port.served_iff (x : Port) (q : Request) :
    x.served = some q ↔ x.outstanding = true ∧ x.queue.head? = some q := by
  unfold Port.served
  cases x.outstanding <;> simp

/-- A port's own capacities, as the law tests them. -/
theorem Port.kept_iff (x : Port) (p : PortName) (busy : Option MessageKind) :
    x.Kept p busy ↔ x.capacitiesKept = true ∧ (p = .c → x.state = .up → ∀ r ∈ x.replies, r.away = false)
      ∧ (p = .c → ∀ kind, busy = some kind → ∃ q, x.served = some q ∧ q.kind = kind) := by
  have hplace : (!x.outstanding || (match x.queue with
        | [] => false
        | r :: _ => r.kind == .useReport || decide (x.replies.length < 4))) = true
      ↔ (x.outstanding = true → ∃ q, x.queue.head? = some q ∧ (q.kind = .useReport ∨ x.replies.length < 4)) := by
    cases x.outstanding <;> cases x.queue <;> simp
  have hslot : x.slot.all (fun payload => decide (30 ≤ payload.length) && decide (payload.length ≤ 54)) = true
      ↔ ∀ payload, x.slot = some payload → 30 ≤ payload.length ∧ payload.length ≤ 54 := by
    cases x.slot <;> simp
  constructor
  · rintro ⟨hqueue, hreplies, hbytes, htest, hbad, hdiscards, hs, hp, hpresent, hserving⟩
    refine ⟨?_, hpresent, hserving⟩
    unfold Port.capacitiesKept
    rw [hslot.mpr hs]
    simp only [hqueue, hreplies, hbytes, htest, hbad, hdiscards, decide_true, Bool.true_and]
    exact hplace.mpr hp
  · rintro ⟨h, hpresent, hserving⟩
    unfold Port.capacitiesKept at h
    simp only [Bool.and_eq_true, decide_eq_true_eq] at h
    obtain ⟨⟨⟨⟨⟨⟨⟨hqueue, hreplies⟩, hbytes⟩, htest⟩, hbad⟩, hdiscards⟩, hs⟩, hp⟩ := h
    exact ⟨hqueue, hreplies, hbytes, htest, hbad, hdiscards, hslot.mp hs, hplace.mp hp, hpresent, hserving⟩

/-- R159, R160: a port at a release. -/
theorem Port.start_kept (p : PortName) : Port.start.Kept p none :=
  ⟨by decide, by decide, by decide, by decide, by decide, by decide, nofun, nofun, fun _ => nofun, fun _ => nofun⟩

namespace Port.Kept

variable {x : Port} {p : PortName} {busy : Option MessageKind} (h : x.Kept p busy)
include h

/-- R170: with no operation in flight no request has to stay outstanding. -/
theorem idle : x.Kept p none := { h with serving := fun _ => nofun }

/-- R142: a receiver that keeps at most 31 bytes. -/
theorem withReceiver {r : Receiver} (hr : r.bytes.length ≤ 31) : { x with receiver := r }.Kept p busy :=
  { h with bytes := hr }

/-- R146: a head handed on that a reply answers has a free place. -/
theorem handOn : x.handOn.Kept p busy := by
  unfold Port.handOn
  split
  next hmay =>
    refine { h with place := fun _ => ?_, serving := fun hp kind hbusy => ?_ }
    · unfold Port.mayHandOn at hmay
      split at hmay
      · cases hmay
      next q rest hqueue =>
        simp only [Bool.and_eq_true, Bool.or_eq_true, beq_iff_eq, decide_eq_true_eq] at hmay
        exact ⟨q, by rw [hqueue]; rfl, hmay.2⟩
    · obtain ⟨q, hq, hkind⟩ := h.serving hp kind hbusy
      exact ⟨q, (Port.served_iff _ q).mpr ⟨rfl, ((x.served_iff q).mp hq).2⟩, hkind⟩
  next => exact h

/-- Replies that leave keep the rest in its order and its bounds. -/
theorem withFewerReplies {replies : List WaitingReply} (hsub : replies.Sublist x.replies) :
    { x with replies := replies }.Kept p busy :=
  { h with
    replies := hsub.length_le.trans h.replies
    place := fun hout => by
      obtain ⟨q, hq, hfree⟩ := h.place hout
      exact ⟨q, hq, hfree.imp id hsub.length_le.trans_lt⟩
    present := fun hp hup r hr => h.present hp hup r (hsub.mem hr) }

theorem beginStatus (payload : List Byte) : (x.beginStatus payload).Kept p busy :=
  { h with checkTest := (Nat.sub_le _ _).trans h.checkTest, slot := nofun }

/-- R151, R152: the transmitter's taking removes replies and the waiting STATUS frame, and adds nothing. -/
theorem take (fuel : Nat) : (x.take fuel).Kept p busy := by
  induction fuel generalizing x with
  | zero => exact h
  | succ n ih =>
    unfold Port.take
    split
    · exact h
    · split
      · exact h
      · exact h.beginStatus _
      next r rest hreplies =>
        have hrest := h.withFewerReplies (replies := rest) (by rw [hreplies]; exact List.sublist_cons_self r rest)
        split
        · exact h.beginStatus _
        · split
          · exact { hrest with }
          · exact ih (x := { x with replies := rest, lastSent := .reply }) { hrest with }

theorem advance : x.advance.Kept p busy := (h.take _).handOn

/-- R147: the answered head has left the queue. -/
theorem dequeue (hbusy : p = .c → busy = none) : x.dequeue.Kept p busy :=
  { h with
    queue := (List.tail_sublist _).length_le.trans h.queue
    place := nofun
    serving := fun hp kind hkind => by rw [hbusy hp] at hkind; cases hkind }

/-- R170: while an operation is in flight, Port C's outstanding request is the one that it serves. -/
theorem busy_of_served {q : Request} (hq : x.served = some q) (hbusy : busy ≠ some q.kind) : p = .c → busy = none := by
  intro hp
  by_contra hsome
  obtain ⟨kind, hkind⟩ := Option.ne_none_iff_exists'.mp hsome
  obtain ⟨q', hq', rfl⟩ := h.serving hp kind hkind
  rw [hq] at hq'
  cases hq'
  exact hbusy hkind

/-- R146, R152, R195: an outstanding head that a reply answers has kept a place for it. -/
theorem answer {q : Request} (hq : x.served = some q) (hkind : q.kind ≠ .useReport) (hbusy : busy ≠ some q.kind)
    (r : Reply) : (x.answer r).Kept p busy := by
  obtain ⟨hout, hhead⟩ := (x.served_iff q).mp hq
  have hfree : x.replies.length < 4 := by
    obtain ⟨q', hhead', hfree⟩ := h.place hout
    rw [hhead] at hhead'
    cases hhead'
    exact hfree.resolve_left hkind
  refine Kept.advance { h.dequeue (h.busy_of_served hq hbusy) with
    replies := ?_, place := nofun, present := fun hp hup r' hr' => ?_ }
  · rw [List.length_append]; exact hfree
  · rcases List.mem_append.mp hr' with hr' | hr'
    · exact h.present hp hup r' hr'
    · rw [List.mem_singleton.mp hr', Port.handed_away]
      have hup : x.state = .up := hup
      rw [hup]; rfl

/-- R145: a fifth request is not queued, and the discards saturate. -/
theorem enqueue (r : Request) : (x.enqueue r).Kept p busy := by
  have hhead {q : Request} (hq : x.queue.head? = some q) : (x.queue ++ [r]).head? = some q := by
    rw [List.head?_append, hq]; rfl
  unfold Port.enqueue
  split
  next hroom =>
    refine Kept.handOn { h with queue := ?_, place := fun hout => ?_, serving := fun hp kind hkind => ?_ }
    · rw [List.length_append]; exact hroom
    · obtain ⟨q, hq, hfree⟩ := h.place hout
      exact ⟨q, hhead hq, hfree⟩
    · obtain ⟨q, hq, hqkind⟩ := h.serving hp kind hkind
      obtain ⟨hout, hq⟩ := (x.served_iff q).mp hq
      exact ⟨q, (Port.served_iff _ q).mpr ⟨hout, hhead hq⟩, hqkind⟩
  next => exact { h with discards := Nat.min_le_left _ _ }

/-- R195: Port C comes UP without the replies handed over before. -/
theorem comesUp : (x.comesUp p).Kept p busy := by
  unfold Port.comesUp Port.dropAway
  dsimp only
  split
  · refine Kept.handOn { h.withFewerReplies (List.filter_sublist (p := fun r => !r.away)) with
      present := fun _ _ r hr => ?_ }
    simpa using (List.mem_filter.mp hr).2
  next hp => exact { h with present := fun hc => absurd hc hp }

theorem linkPresence : (x.present p).Kept p busy := by
  unfold Port.present
  split
  · exact { h with }
  · exact h.comesUp

theorem silenceRises : x.silenceRises.Kept p busy := by
  unfold Port.silenceRises
  split
  · split
    · exact { h with present := fun _ => nofun }
    · exact { h with }
  · exact h

/-- R153, R154. -/
theorem placeStatus {payload : List Byte} (hpayload : 30 ≤ payload.length ∧ payload.length ≤ 54) :
    (x.placeStatus payload).Kept p busy :=
  Kept.advance { h with slot := by rintro _ ⟨⟩; exact hpayload }

theorem frameSent : x.frameSent.Kept p busy := by
  unfold Port.frameSent
  split
  · exact { h with }
  all_goals exact h

theorem gapEnds : x.gapEnds.Kept p busy := by
  unfold Port.gapEnds
  split
  · exact Kept.advance (x := { x with transmitter := .free }) { h with }
  all_goals exact h

/-- R161: a stopped port holds nothing. -/
theorem stopped : x.stopped.Kept p none :=
  ⟨Nat.zero_le _, Nat.zero_le _, Nat.zero_le _, h.checkTest, h.badFrames, h.discards, nofun, nofun, fun _ _ => nofun,
    fun _ => nofun⟩

end Port.Kept

end Sys2Proof.Machine
end

section
/-! PROOF. O13, assembled. Most commands move neither a port nor the kind of the flash operation in flight; the others move
ports by the operations of `Port.Kept`, and answer only a request that is outstanding. -/
namespace Sys2Proof.Machine

/-! ### The three ports and the operation in flight -/

/-- The kind of the request that the flash operation in flight serves. -/
def State.busy (s : State) : Option MessageKind := s.cst.operation.map fun o => o.operation.kind

/-- Every port keeps its bounds. -/
def State.PortsKept (s : State) : Prop := ∀ p, (s.port p).Kept p s.busy

theorem State.served_iff {s : State} {p : PortName} {kind : MessageKind} {q : Request} :
    s.served p kind = some q ↔ (s.port p).served = some q ∧ q.kind = kind := by
  unfold State.served
  rw [Option.filter_eq_some_iff, beq_iff_eq]

theorem State.served_of_inService {s : State} {kind : MessageKind} {h : Holder} {r : Request}
    (hin : s.inService kind = some (h, r)) : s.served h.port kind = some r := by
  unfold State.inService at hin
  split at hin
  · obtain ⟨q, hq, ⟨⟩⟩ := Option.map_eq_some_iff.mp hin
    exact hq
  all_goals cases hin

theorem State.capacitiesKept_iff (s : State) : s.capacitiesKept = true ↔ s.PortsKept := by
  have haway : s.awayRepliesGone = true
      ↔ ((s.port .c).state = .up → ∀ r ∈ (s.port .c).replies, r.away = false) := by
    cases hstate : (s.port .c).state <;> simp [State.awayRepliesGone, hstate]
  have hserving : s.operationOutstanding = true
      ↔ ∀ kind, s.busy = some kind → ∃ q, (s.port .c).served = some q ∧ q.kind = kind := by
    unfold State.operationOutstanding State.busy
    cases s.cst.operation <;> simp [Option.isSome_iff_exists, State.served_iff]
  have hall : s.PortsKept ↔ (s.port .e).Kept .e s.busy ∧ (s.port .b).Kept .b s.busy ∧ (s.port .c).Kept .c s.busy :=
    ⟨fun h => ⟨h _, h _, h _⟩, fun ⟨he, hb, hc⟩ p => by cases p <;> assumption⟩
  simp only [hall, State.capacitiesKept, Bool.and_eq_true, haway, hserving, Port.kept_iff]
  simp only [reduceCtorEq, false_imp_iff, true_imp_iff, and_true]
  tauto

/-- R170: only calibration requests start operations. -/
theorem State.busy_ne {s : State} {kind : MessageKind} (h : kind.calibrationKind = false) : s.busy ≠ some kind := by
  intro hbusy
  obtain ⟨o, -, rfl⟩ := Option.map_eq_some_iff.mp hbusy
  cases ho : o.operation <;> rw [ho] at h <;> cases h

theorem State.busy_of_idle {s : State} (h : s.cst.operation = none) : s.busy = none := by rw [State.busy, h]; rfl

/-- What moves no port and no operation keeps both. -/
theorem State.links_of_besideClamps {s t : State} (h : t.besideClamps = s.besideClamps) :
    t.ports = s.ports ∧ t.busy = s.busy :=
  ⟨(congrArg State.ports h :), (congrArg State.busy h :)⟩

/-- A port whose outstanding request a reply may answer, every port within its bounds. -/
structure State.Answering (s : State) (p : PortName) : Prop where
  kept : s.PortsKept
  awaited : ∃ q, (s.port p).served = some q ∧ q.kind ≠ .useReport ∧ s.busy ≠ some q.kind

section
variable {s t : State}

namespace State.Answering

variable {p : PortName} (h : s.Answering p)
include h

theorem of_eq (hports : t.ports = s.ports) (hbusy : t.busy = s.busy) : t.Answering p := by
  refine ⟨fun j => ?_, ?_⟩
  · rw [State.port, hports, hbusy]; exact h.kept j
  · rw [State.port, hports, hbusy]; exact h.awaited

theorem answer (r : Reply) : (s.answer p r).PortsKept := by
  obtain ⟨q, hq, hkind, hbusy⟩ := h.awaited
  intro j
  have hstands : (s.answer p r).busy = s.busy := rfl
  rw [State.answer_port, hstands]
  split
  next hj => subst hj; exact (h.kept j).answer hq hkind hbusy r
  next => exact h.kept j

omit h in
theorem answerCalibration (h : s.Answering .c) (kind : MessageKind) (code : ReplyCode) (rest : List Byte) :
    (s.answerCalibration kind code rest).PortsKept :=
  Answering.answer (s := s.setCst _) (h.of_eq rfl rfl) _

end State.Answering

namespace State.PortsKept

variable (h : s.PortsKept)
include h

theorem of_eq (hports : t.ports = s.ports) (hbusy : t.busy = s.busy) : t.PortsKept := fun p => by
  rw [State.port, hports, hbusy]; exact h p

theorem of_besideClamps (hbeside : t.besideClamps = s.besideClamps) : t.PortsKept :=
  h.of_eq (State.links_of_besideClamps hbeside).1 (State.links_of_besideClamps hbeside).2

theorem setPort {p : PortName} {x : Port} (hx : x.Kept p s.busy) : (s.setPort p x).PortsKept := fun j => by
  have hstands : (s.setPort p x).busy = s.busy := rfl
  rw [hstands]
  by_cases hj : j = p
  · subst hj; rwa [State.port_setPort_same]
  · rw [State.port_setPort_other _ _ _ _ hj]; exact h j

theorem answering {p : PortName} {kind : MessageKind} {q : Request} (hq : s.served p kind = some q)
    (hkind : kind ≠ .useReport) (hbusy : s.busy ≠ some kind) : s.Answering p := by
  obtain ⟨hserved, rfl⟩ := State.served_iff.mp hq
  exact ⟨h, q, hserved, hkind, hbusy⟩

/-! ### Receiving (R142, R143, R145) -/

theorem changeReceiver {p : PortName} {f : Receiver → Receiver}
    (hf : ∀ r, r.bytes.length ≤ 31 → (f r).bytes.length ≤ 31) : (s.changeReceiver p f).PortsKept :=
  h.setPort ((h p).withReceiver (hf _ (h p).bytes))

theorem linkPresence (p : PortName) : (s.linkPresence p).PortsKept := by
  have hport := (h p).linkPresence
  unfold Port.present at hport
  unfold State.linkPresence
  split
  next hup => rw [if_pos hup] at hport; exact h.setPort hport
  next hup =>
    rw [if_neg hup] at hport
    exact (h.setPort hport).of_besideClamps (State.changeGrants_besideClamps _ _ _)

theorem arrive (p : PortName) (r : Request) : (s.arrive p r).PortsKept := by
  have hpresent := h.linkPresence p
  unfold State.arrive
  dsimp only
  split
  · exact hpresent
  · exact hpresent.setPort ((hpresent p).enqueue r)

theorem endFrame (p : PortName) : (s.endFrame p).PortsKept := by
  have hended := (h p).withReceiver (r := ⟨.hunting, [], 0, false, (s.port p).receiver.idle⟩) (Nat.zero_le _)
  unfold State.endFrame
  dsimp only
  split
  · exact h.setPort { hended with badFrames := Nat.min_le_left _ _ }
  · exact (h.setPort hended).arrive p _

theorem byteArrives (p : PortName) (byte : Byte) (fault : Bool) : (s.byteArrives p byte fault).PortsKept := by
  have happend (r : Receiver) (hr : r.bytes.length ≤ 31) : (r.append byte fault).bytes.length ≤ 31 := by
    unfold Receiver.append
    dsimp only
    split
    next hroom => rw [List.length_append]; exact hroom
    next => exact hr
  have hloose (r : Receiver) (hr : r.bytes.length ≤ 31) : (r.unassembled byte fault).bytes.length ≤ 31 := by
    unfold Receiver.unassembled
    split
    · exact Nat.le_add_left 1 30
    · exact hr
  unfold State.byteArrives
  split
  · split
    · exact h.changeReceiver happend
    · exact (h.endFrame p).changeReceiver hloose
  all_goals exact h.changeReceiver hloose

theorem frameEnds (p : PortName) : (s.frameEnds p).PortsKept := by
  unfold State.frameEnds
  split
  · exact h.endFrame p
  all_goals exact h

theorem linkHeld (p : PortName) : (s.linkHeld p).PortsKept := by
  unfold State.linkHeld
  split
  · exact h.endFrame p
  · exact h.arrive p _

theorem silenceRises (p : PortName) : (s.silenceRises p).PortsKept := by
  have hport := h.setPort (h p).silenceRises
  have hfrozen : ((s.setPort p (s.port p).silenceRises).freezeGrants p).PortsKept :=
    hport.of_besideClamps (State.changeGrants_besideClamps _ _ _)
  unfold State.silenceRises
  dsimp only
  split
  · split
    · exact hfrozen.of_eq rfl rfl
    · exact hfrozen
  · exact hport

theorem cycleTimerExpires : s.cycleTimerExpires.PortsKept := by
  cases htimer : s.leu.cycleTimer with
  | none => simpa only [State.cycleTimerExpires, htimer] using h
  | some n =>
    rw [State.cycleTimerExpires_of_running htimer]
    exact (((h.of_eq (t := s.timerRestarts) rfl rfl).silenceRises .e).silenceRises .b).silenceRises .c

/-! ### Commands that move no port -/

theorem publishEstimate : s.publishEstimate.PortsKept := by
  by_cases hidle : s.leu.work = .idle
  · simpa only [State.publishEstimate, hidle, if_true] using h
  · rw [State.publishEstimate_eq hidle]
    refine of_besideClamps ?_ (State.monitorsPublication_besideClamps _ _)
    exact h.of_eq rfl rfl

theorem captureTooth (w : Wheel) (edge : Nat) : (s.captureTooth w edge).PortsKept := by
  refine of_besideClamps ?_ (State.handOnCapture_besideClamps _ _ _ _ _)
  exact h.of_eq rfl rfl

theorem lockWindowExpires (m : MonitorName) : (s.lockWindowExpires m).PortsKept := by
  unfold State.lockWindowExpires
  split
  · exact h
  · dsimp only
    split
    · exact h.of_besideClamps (State.triggerHard_besideClamps _ _ _ _)
    · exact h.of_eq rfl rfl

theorem transactionCompletes (block : Vector Byte 16) : (s.transactionCompletes block).PortsKept := by
  have hcompleted (t : State) : t.sampleCompleted.ports = t.ports ∧ t.sampleCompleted.busy = t.busy := by
    unfold State.sampleCompleted State.endSensorWait
    dsimp only
    split_ifs <;> exact ⟨rfl, rfl⟩
  unfold State.transactionCompletes
  split
  · exact (h.of_eq (t := s.setSif _) rfl rfl).of_eq (hcompleted _).1 (hcompleted _).2
  · exact h

theorem publishBudget : s.publishBudget.PortsKept := by
  unfold State.publishBudget
  split
  · split
    · exact h
    · rw [State.computeBudget_eq]; exact h.of_eq rfl rfl
  · exact h

theorem takeService : s.takeService.PortsKept := by
  unfold State.takeService
  split
  · split
    · exact h.of_eq rfl rfl
    · exact h.of_eq rfl rfl
    · exact h
  · exact h

theorem rewriteCompletes : s.rewriteCompletes.PortsKept := by
  unfold State.rewriteCompletes
  split
  · exact h
  · exact h.of_eq rfl rfl

theorem loadCompletes : s.loadCompletes.PortsKept := by
  unfold State.loadCompletes
  split
  · exact h.of_eq rfl rfl
  · exact h

theorem sampleService (high : Bool) : (s.sampleService high).PortsKept := by
  have hsampled : (s.cst.sampleService high).operation = s.cst.operation := by
    unfold Cst.sampleService
    split_ifs <;> rfl
  have hbusy : (s.setCst (s.cst.sampleService high)).busy = s.busy :=
    congrArg (Option.map fun o : OperationInFlight => o.operation.kind) hsampled
  unfold State.sampleService
  dsimp only
  split
  all_goals exact h.of_eq rfl hbusy

/-! ### Answers (R146, R147, R152) -/

theorem completeReevaluation : s.completeReevaluation.PortsKept := by
  have hsettled : s.countDown.reshare.freeEngine.PortsKept :=
    (h.of_besideClamps (t := s.countDown.reshare) (by simp)).of_eq rfl rfl
  unfold State.completeReevaluation
  split
  · intro p
    have hport : (s.countDown.reshare.freeEngine.queueStatus.startRewrite).port p
        = (s.countDown.reshare.freeEngine.port p).placeStatus (s.countDown.reshare.freeEngine.statusPayload p) :=
      State.queueStatus_port _ p
    rw [hport]
    exact (hsettled p).placeStatus (State.statusPayload_length _ p)
  · exact h

theorem serveGrantRequest {holder : Holder} {r : Request} (hin : s.inService .grantRequest = some (holder, r)) :
    (s.serveGrantRequest holder r).PortsKept := by
  have hanswering := h.answering (State.served_of_inService hin) (by decide) (State.busy_ne rfl)
  have hwritten (k : GrantKey) (n : Nat) : (s.grantWritten k n).besideClamps = s.besideClamps := by
    simp [State.grantWritten]
  unfold State.serveGrantRequest
  split
  next k _ _ =>
    obtain ⟨hports, hbusy⟩ := State.links_of_besideClamps (hwritten k r.force)
    exact State.Answering.answer (s := (s.grantWritten k r.force).freeEngine) (hanswering.of_eq hports hbusy) _
  all_goals exact State.Answering.answer (s := s.freeEngine) (hanswering.of_eq rfl rfl) _

theorem serveGrantRelease {holder : Holder} {r : Request} (hin : s.inService .grantRelease = some (holder, r)) :
    (s.serveGrantRelease holder r).PortsKept := by
  have hanswering := h.answering (State.served_of_inService hin) (by decide) (State.busy_ne rfl)
  unfold State.serveGrantRelease
  split
  next k _ _ =>
    split
    · obtain ⟨hports, hbusy⟩ := State.links_of_besideClamps (s.writeGrant_besideClamps k none)
      exact State.Answering.answer (s := (s.writeGrant k none).freeEngine) (hanswering.of_eq hports hbusy) _
    · exact State.Answering.answer (s := s.freeEngine) (hanswering.of_eq rfl rfl) _
  all_goals exact State.Answering.answer (s := s.freeEngine) (hanswering.of_eq rfl rfl) _

/-- R97, R147: a USE_REPORT leaves the queue without a reply. -/
theorem useReported {holder : Holder} {r : Request} (hin : s.inService .useReport = some (holder, r)) :
    ((s.useReported holder r).finishSilently holder.port).PortsKept := by
  have hlinks : (s.useReported holder r).ports = s.ports ∧ (s.useReported holder r).cst = s.cst := by
    unfold State.useReported State.takeReport
    split
    · split <;> simp
    all_goals exact ⟨rfl, rfl⟩
  obtain ⟨hports, hcst⟩ := hlinks
  have hreported : (s.useReported holder r).PortsKept := h.of_eq hports (by rw [State.busy, hcst]; rfl)
  obtain ⟨hserved, hkind⟩ := State.served_iff.mp (State.served_of_inService hin)
  have hserved : ((s.useReported holder r).port holder.port).served = some r := by rwa [State.port, hports]
  have hport := hreported holder.port
  exact setPort (s := (s.useReported holder r).freeEngine) (hreported.of_eq rfl rfl)
    (hport.dequeue (hport.busy_of_served hserved (by rw [hkind]; exact State.busy_ne rfl))).handOn

theorem serveClampClear {p : PortName} {r : Request} (hr : s.served p .clampClear = some r) :
    (s.serveClampClear p r).PortsKept := by
  have hanswering := h.answering hr (by decide) (State.busy_ne rfl)
  have hcleared : (s.clampCleared r).besideClamps = s.besideClamps := by
    unfold State.clampCleared
    split <;> simp
  obtain ⟨hports, hbusy⟩ := State.links_of_besideClamps hcleared
  unfold State.serveClampClear
  split
  · exact (hanswering.of_eq hports hbusy).answer _
  · exact hanswering.answer _

theorem serveShiftNotice {r : Request} (hr : s.served .e .shiftNotice = some r) : s.serveShiftNotice.PortsKept := by
  have hanswering := h.answering hr (by decide) (State.busy_ne rfl)
  unfold State.serveShiftNotice State.shiftNoticed
  split
  · refine State.Answering.answer ?_ _
    split
    all_goals exact hanswering.of_eq rfl rfl
  · exact hanswering.answer _

theorem profileSetServed {r : Request} (hr : s.served .c .profileSet = some r) : (s.profileSetServed r).PortsKept := by
  have hanswering := h.answering hr (by decide) (State.busy_ne rfl)
  unfold State.profileSetServed State.profileSetAt State.serveProfileSet
  split
  all_goals exact State.Answering.answer (hanswering.of_eq rfl rfl) _

/-- R157: a count of at most 8 replaces the check-test count. -/
theorem serveCheckTest {p : PortName} {r : Request} (hr : s.served p .checkTest = some r) :
    (s.serveCheckTest p r).PortsKept := by
  have hanswering := h.answering hr (by decide) (State.busy_ne rfl)
  unfold State.serveCheckTest
  split
  · exact hanswering.answer _
  next hcount =>
    have hcounts : (s.setPort p { s.port p with checkTest := r.byte 0 }).PortsKept :=
      h.setPort { h p with checkTest := Nat.not_lt.mp hcount }
    obtain ⟨q, hq, hkind, hbusy⟩ := hanswering.awaited
    refine State.Answering.answer ⟨hcounts, q, ?_, hkind, hbusy⟩ _
    rw [State.port_setPort_same]
    exact hq

/-! ### The store (R170 to R176) -/

/-- A calibration request that the store serves finds no operation in flight. -/
theorem calibrationAnswering {kind : MessageKind} {r : Request} (hr : s.calibrationServed kind = some r)
    (hkind : kind ≠ .useReport) : s.cst.operation = none ∧ s.Answering .c := by
  unfold State.calibrationServed at hr
  split at hr
  · cases hr
  next hidle =>
    have hidle : s.cst.operation = none := Option.not_isSome_iff_eq_none.mp hidle
    exact ⟨hidle, h.answering hr hkind (by rw [State.busy_of_idle hidle]; nofun)⟩

/-- R170: an operation's request stays outstanding while it is in flight. -/
theorem startOperation {kind : MessageKind} {r : Request} (hr : s.calibrationServed kind = some r)
    (hkind : kind ≠ .useReport) {o : FlashOperation} (ho : o.kind = kind) (n : Nat) :
    (s.startOperation o n).PortsKept := by
  obtain ⟨hidle, -⟩ := h.calibrationAnswering hr hkind
  have hserved : s.served .c kind = some r := by
    unfold State.calibrationServed at hr
    rwa [hidle] at hr
  intro p
  refine { h p with serving := ?_ }
  rintro rfl _ ⟨⟩
  obtain ⟨hq, hqkind⟩ := State.served_iff.mp hserved
  exact ⟨r, hq, hqkind.trans ho.symm⟩

/-- R170: an operation's end answers the request that it served. -/
theorem operationEnds {o : OperationInFlight} (ho : s.cst.operation = some o) {x : Cst} (hx : x.operation = none) :
    (s.setCst x).Answering .c := by
  have hidle : (s.setCst x).busy = none := State.busy_of_idle hx
  have hbusy : s.busy = some o.operation.kind := by rw [State.busy, ho]; rfl
  obtain ⟨q, hq, hkind⟩ := (h .c).serving rfl _ hbusy
  refine ⟨fun p => ?_, q, hq, ?_, by rw [hidle]; nofun⟩
  · rw [hidle]; exact (h p).idle
  · rw [hkind]
    cases o.operation <;> nofun

theorem wipeNext (left : ArrayLeft) : (s.wipeNext left).PortsKept := by
  unfold State.wipeNext
  split
  next erased clean remaining hop =>
    have hbusy : s.busy = some .calWipe := by rw [State.busy, hop]; rfl
    split
    · exact h.of_eq rfl hbusy.symm
    · exact h
  all_goals exact h

theorem wipeCompletes : s.wipeCompletes.PortsKept := by
  unfold State.wipeCompletes
  split
  next hop =>
    split
    · exact (h.operationEnds hop rfl).answerCalibration _ _ _
    · exact h
  all_goals exact h

theorem serveOpen {r : Request} (hr : s.calibrationServed .calOpen = some r) : s.serveOpen.PortsKept := by
  obtain ⟨-, hanswering⟩ := h.calibrationAnswering hr (by decide)
  unfold State.serveOpen
  split
  · exact State.Answering.answerCalibration (s := s.setCst _) (hanswering.of_eq rfl rfl) _ _ _
  · exact hanswering.answerCalibration _ _ _

/-- R167: a refusal is answered. -/
theorem serveCalibration {kind : MessageKind} {r : Request} (hr : s.calibrationServed kind = some r)
    (hkind : kind ≠ .useReport) {carryOut : State} (hcarry : carryOut.PortsKept) :
    (s.serveCalibration r carryOut).PortsKept := by
  unfold State.serveCalibration
  split
  · exact (h.calibrationAnswering hr hkind).2.answerCalibration _ _ _
  · exact hcarry

/-! ### The time base -/

theorem ticked : s.ticked.PortsKept := by
  have hbusy : s.ticked.busy = s.busy := by
    unfold State.busy State.ticked Cst.tick
    rw [Option.map_map]
    rfl
  intro p
  have hport : s.ticked.port p = (s.port p).tick := PerPort.get_map _ _ _
  rw [hport, hbusy]
  exact (h p).withReceiver (h p).bytes

end State.PortsKept

end

/-! ### Holds and releases (R161, R177) -/

theorem portsKept_underSupervision : KeptUnderSupervision State.PortsKept where
  sense := fun _ _ _ _ _ h => h.of_eq rfl rfl
  stop := fun s h p => by
    have hport : s.stopBlocks.port p = (s.port p).stopped := PerPort.get_map _ _ _
    have hidle : s.stopBlocks.cst.operation = none := by
      change (s.cst.stopped s.freeCount).operation = none
      unfold Cst.stopped
      split
      next hnone => exact hnone
      next => rfl
    rw [hport, State.busy_of_idle hidle]
    exact (h p).stopped
  release := fun s h p => by
    unfold State.release
    split
    · cases p <;> exact Port.start_kept _
    · cases p <;> exact Port.start_kept _
  lose := fun _ _ _ _ _ h => h.of_eq rfl rfl

/-! ### Every step -/

/-- A command that serves a request runs where the request is found. -/
theorem leadsTo_found {P : State → Prop} {s : State} (found : Option Request) {t : Request → State} (hs : P s) :
    (∀ r, found = some r → P (t r)) → LeadsTo P (match found with
      | none => go s
      | some r => go (s.whileOperating (t r))) := by
  intro ht
  cases found with
  | none => exact leadsTo_go hs
  | some r => exact leadsTo_operating hs (ht r rfl)

theorem exec_portsKept (c : Instr) {s : State} (h : s.PortsKept) : LeadsTo State.PortsKept (exec c s) := by
  by_cases hsupervision : c.isSupervision = true
  · exact portsKept_underSupervision.exec h hsupervision
  have hoperating {t : State} (ht : t.PortsKept) : LeadsTo State.PortsKept (go (s.whileOperating t)) :=
    leadsTo_operating h ht
  have hoccurring {t : State} (occurs : Bool) (ht : t.PortsKept) :
      LeadsTo State.PortsKept (occurring occurs (s.whileOperating t) s) :=
    leadsTo_occurring h (State.whileOperating_keeps h ht)
  cases c with
  | cycleTimerExpiry => exact hoperating h.cycleTimerExpires
  | silenceCountExpiry p => exact hoccurring _ h.cycleTimerExpires
  | transactionCompletion block => exact hoperating (h.transactionCompletes block)
  | estimatePublication => exact hoperating h.publishEstimate
  | coastCountExpiry => exact hoccurring _ h.publishEstimate
  | settlingGoodCountReached => exact hoccurring _ h.publishEstimate
  | delayCountExpiry m => exact hoccurring _ h.publishEstimate
  | softHoldExpiry m => exact hoccurring _ h.publishEstimate
  | blankingExpiry m => exact hoccurring _ h.publishEstimate
  | hardAutoEnd m => exact hoccurring _ h.publishEstimate
  | budgetPublication => exact hoperating h.publishBudget
  | greServiceTake => exact hoperating h.takeService
  | reevaluationCompletion => exact hoperating h.completeReevaluation
  | grantCountdownExpiry k => exact hoccurring _ h.completeReevaluation
  | retainedRewriteCompletion => exact hoperating h.rewriteCompletes
  | linePeriodStart l => exact hoperating (h.of_eq rfl rfl)
  | linePulseEnd l => exact hoperating (h.of_eq rfl rfl)
  | toothCapture w edge => exact hoperating (h.captureTooth w edge)
  | wheelRevalidated w edge => exact hoccurring _ (h.captureTooth w edge)
  | silenceExpiry w => exact hoperating (h.of_eq rfl rfl)
  | lockWindowExpiry m => exact hoperating (h.lockWindowExpires m)
  | receiveReadyExpiry p =>
    refine hoperating (h.changeReceiver fun r hr => ?_)
    unfold Receiver.rested
    split <;> exact hr
  | frameReceived p => exact hoperating (h.frameEnds p)
  | byteReceived p byte fault => exact hoperating (h.byteArrives p byte fault)
  | linkHold p => exact hoperating (h.linkHeld p)
  | transmitGapExpiry p => exact hoperating (h.setPort (h p).gapEnds)
  | frameSent p => exact hoperating (h.setPort (h p).frameSent)
  | grantRequest =>
    simp only [exec, execGrantRequest]
    split
    · exact leadsTo_go h
    next hin => exact hoperating (h.serveGrantRequest hin)
  | grantRelease =>
    simp only [exec, execGrantRelease]
    split
    · exact leadsTo_go h
    next hin => exact hoperating (h.serveGrantRelease hin)
  | useReport =>
    simp only [exec, execUseReport]
    split
    · exact leadsTo_go h
    next hin => exact hoperating (h.useReported hin)
  | clampClear p => exact leadsTo_found _ h fun _ hr => h.serveClampClear hr
  | shiftNotice => exact leadsTo_found _ h fun _ hr => h.serveShiftNotice hr
  | profileSet => exact leadsTo_found _ h fun _ hr => h.profileSetServed hr
  | checkTest p => exact leadsTo_found _ h fun _ hr => h.serveCheckTest hr
  | calOpen => exact leadsTo_found _ h fun _ hr => h.serveOpen hr
  | calClose =>
    refine leadsTo_found _ h fun r hr => h.serveCalibration hr (by decide) ?_
    exact State.Answering.answerCalibration ((h.calibrationAnswering hr (by decide)).2.of_eq rfl rfl) _ _ _
  | calRead =>
    refine leadsTo_found _ h fun r hr => h.serveCalibration hr (by decide) ?_
    exact (h.calibrationAnswering hr (by decide)).2.answerCalibration _ _ _
  | calErase =>
    exact leadsTo_found _ h fun r hr => h.serveCalibration hr (by decide) (h.startOperation hr (by decide) rfl _)
  | calProgram =>
    exact leadsTo_found _ h fun r hr => h.serveCalibration hr (by decide) (h.startOperation hr (by decide) rfl _)
  | calLock =>
    exact leadsTo_found _ h fun r hr => h.serveCalibration hr (by decide) (h.startOperation hr (by decide) rfl _)
  | calWipe =>
    exact leadsTo_found _ h fun r hr => h.serveCalibration hr (by decide) (h.startOperation hr (by decide) rfl _)
  | calEraseCompletion left =>
    simp only [exec, execCalEraseCompletion]
    split
    next hop => exact hoperating ((h.operationEnds hop rfl).answerCalibration _ _ _)
    all_goals exact leadsTo_go h
  | calProgramCompletion left =>
    simp only [exec, execCalProgramCompletion]
    split
    next hop => exact hoperating ((h.operationEnds hop rfl).answerCalibration _ _ _)
    all_goals exact leadsTo_go h
  | calLockCompletion left =>
    simp only [exec, execCalLockCompletion]
    split
    next hop =>
      refine hoperating ((h.operationEnds hop ?_).answerCalibration _ _ _)
      unfold Cst.locked
      split <;> rfl
    all_goals exact leadsTo_go h
  | wipeSectorEraseCompletion left => exact hoperating (h.wipeNext left)
  | calWipeCompletion left =>
    refine hoperating ?_
    split
    · exact (h.wipeNext left).wipeCompletes
    · exact h.wipeCompletes
  | loadCompletion => exact leadsTo_go h.loadCompletes
  | sensorWaitExpiry =>
    refine leadsTo_go ?_
    split
    · exact h.of_eq rfl rfl
    · exact h
  | svcSample high => exact hoperating (h.sampleService high)
  | svcAsserted => exact hoccurring _ (h.sampleService true)
  | svcReleased => exact hoccurring _ (h.sampleService false)
  | _ => exact absurd rfl hsupervision

/-- Settles O13: each command keeps every port within its bounds (`exec_portsKept`), and a tick moves only the receive
assemblies' idle times and the operation's time. -/
theorem portCapacitiesKept : Obligations.PortCapacitiesKept := by
  intro s t hstep hs
  rw [State.capacitiesKept_iff] at hs ⊢
  unfold step at hstep
  split at hstep
  next c rest _ => exact exec_portsKept (s := s.setPending rest) c (hs.of_eq rfl rfl) t hstep
  next =>
    obtain rfl : s.tick = t := by simpa using hstep
    exact State.whileOperating_keeps hs hs.ticked

end Sys2Proof.Machine
end

section
/-! PROOF. O45, O46: the bytes of a frame, and the frame that is bad. A row's receiver is taken by what it does with a byte
that no frame in assembly takes, and by what a frame that passes the tests of R143 has. -/
namespace Sys2Proof.Machine

section
variable {s : State} {p : PortName}

/-! ### A bad frame (R143) -/

/-- R143: what a frame that is taken as a request has. -/
theorem Receiver.tests_of_judge {r : Receiver} {q : Request} (h : r.judge p = some q) :
    r.fault = false ∧ 3 ≤ r.count ∧ r.bytes.getLast? = some (checkByte r.bytes.dropLast)
      ∧ ∀ kind len rest, r.bytes = kind :: len :: rest →
        kindOfCode kind.toNat = some q.kind ∧ len.toNat ≤ 28 ∧ r.count = len.toNat + 3
          ∧ q.kind.accepts len.toNat = true ∧ p.mayReceive q.kind = true := by
  unfold Receiver.judge at h
  split at h
  next kind len rest hbytes =>
    split at h
    · cases h
    next k hk =>
      split at h
      next htests =>
        simp only [Bool.and_eq_true, Bool.not_eq_true', beq_iff_eq, decide_eq_true_eq] at htests
        obtain ⟨⟨⟨⟨⟨⟨hfault, hcheck⟩, hshort⟩, hcount⟩, -⟩, haccepts⟩, hright⟩ := htests
        cases h
        refine ⟨hfault, by omega, hcheck, fun kind' len' rest' hbytes' => ?_⟩
        rw [hbytes] at hbytes'
        cases hbytes'
        exact ⟨hk, hshort, hcount, haccepts, hright⟩
      next => cases h
  next => cases h

/-- R143: a frame that fails a test is taken as no request. -/
theorem Receiver.judge_eq_none {r : Receiver}
    (h : (∀ q, ¬r.validAs p q) ∨ r.fault = true ∨ r.count < 3 ∨ r.bytes.getLast? ≠ some (checkByte r.bytes.dropLast)
      ∨ ∃ kind len rest, r.bytes = kind :: len :: rest
        ∧ (kindOfCode kind.toNat = none ∨ 28 < len.toNat ∨ r.count ≠ len.toNat + 3
          ∨ ∃ k, kindOfCode kind.toNat = some k ∧ (k.accepts len.toNat = false ∨ p.mayReceive k = false))) :
    r.judge p = none := by
  by_contra hsome
  obtain ⟨q, hq⟩ := Option.ne_none_iff_exists'.mp hsome
  obtain ⟨hfault, hcount, hcheck, htests⟩ := Receiver.tests_of_judge hq
  rcases h with hinvalid | hfault' | hcount' | hcheck' | ⟨kind, len, rest, hbytes, hbad⟩
  · exact hinvalid q ((Receiver.judge_iff r p q).mp hq)
  · rw [hfault] at hfault'; cases hfault'
  · omega
  · exact hcheck' hcheck
  · obtain ⟨hkind, hshort, hlength, haccepts, hright⟩ := htests kind len rest hbytes
    rcases hbad with hnone | hlong | hother | ⟨k, hk, hrefused⟩
    · rw [hkind] at hnone; cases hnone
    · omega
    · exact hother hlength
    · rw [hkind] at hk
      cases hk
      rcases hrefused with hrefused | hrefused
      · rw [haccepts] at hrefused; cases hrefused
      · rw [hright] at hrefused; cases hrefused

/-- R142, R143: a bad frame that ends is counted, and the assembly hunts. -/
theorem State.endFrame_bad (h : (s.port p).receiver.judge p = none) :
    s.endFrame p = s.setPort p { (s.port p).hunting with badFrames := min 255 ((s.port p).badFrames + 1) } := by
  simp only [State.endFrame, h]
  rfl

/-! ### A byte (R141, R142) -/

/-- R142: a frame that has ended, bad or valid, leaves the assembly hunting. -/
theorem State.endFrame_hunts : ((s.endFrame p).port p).receiver = (s.port p).hunting.receiver := by
  cases hjudge : (s.port p).receiver.judge p with
  | none => rw [State.endFrame_bad hjudge, State.port_setPort_same]
  | some q =>
    have hpresent (x : Port) : (x.present p).receiver = x.receiver := by
      rw [Port.present_eq]
      split <;> rfl
    rw [State.endFrame_valid ((Receiver.judge_iff _ p q).mp hjudge), State.arrive_port, State.port_setPort_same]
    split
    · exact hpresent _
    · obtain ⟨-, -, -, -, -, hreceiver, -⟩ := Port.enqueue_spec ((s.port p).hunting.present p) q
      rw [hreceiver]
      exact hpresent _

theorem State.endFrame_operating : (s.endFrame p).operating = s.operating :=
  State.operating_of_sup (State.senses_eq_iff.mp (s.endFrame_senses p)).2.2

variable {byte : Byte} {stopFault : Bool}

theorem exec_byteReceived (hop : s.operating = true) :
    exec (.byteReceived p byte stopFault) s = .next (s.byteArrives p byte stopFault) := by
  simp only [exec, execByteReceived, State.whileOperating_of_operating hop, go]

/-- R142: with no frame in assembly the byte is looked at as it comes. -/
theorem State.byteArrives_unassembled (h : (s.port p).receiver.state ≠ .assembling) :
    s.byteArrives p byte stopFault = s.changeReceiver p fun r => r.unassembled byte stopFault := by
  unfold State.byteArrives
  split
  next hassembling => exact absurd hassembling h
  all_goals rfl

/-- R141, R142: a frame in assembly takes the byte after a gap of at most 10 microseconds, and has ended before it after a
longer one. -/
theorem State.byteArrives_assembling (h : (s.port p).receiver.state = .assembling) :
    s.byteArrives p byte stopFault
      = if (s.port p).receiver.gap ≤ 10 then s.changeReceiver p fun r => r.append byte stopFault
        else (s.endFrame p).changeReceiver p fun r => r.unassembled byte stopFault := by
  simp only [State.byteArrives, h]

end

/-- Settles O46: a bad frame is judged no request (`Receiver.judge_eq_none`). -/
theorem badFrameCounted : Obligations.BadFrameCounted := by
  rintro s p _ hop rfl hassembling hbad
  rw [exec_frameReceived hop hassembling, State.endFrame_bad (Receiver.judge_eq_none hbad)]
  rfl

/-- Settles O45: a byte that joins no frame in assembly is looked at by `Receiver.unassembled`, by a receiver whose frame
has ended too. -/
theorem bytesAssemble : Obligations.BytesAssemble := by
  rintro s p byte stopFault _ hop rfl
  refine ⟨fun hrest => ?_, fun hassembling hgap => ?_, fun hassembling hgap => ?_, fun hhunting hgap => ?_,
    fun hhunting => ?_⟩
  · have hbegins : (s.port p).receiver.state = .ready ∨ 30 ≤ (s.port p).receiver.gap := hrest.imp id And.right
    have hunassembled : (s.port p).receiver.state ≠ .assembling := by
      rcases hrest with hready | ⟨hhunting, -⟩
      · rw [hready]; nofun
      · rw [hhunting]; nofun
    rw [exec_byteReceived hop, State.byteArrives_unassembled hunassembled, State.changeReceiver, Receiver.unassembled,
      if_pos hbegins, Receiver.begin]
  · rw [exec_byteReceived hop, State.byteArrives_assembling hassembling, if_pos hgap]
    rfl
  · have hhunts := State.endFrame_hunts (s := s) (p := p)
    refine ⟨_, exec_frameReceived hop hassembling, ?_⟩
    rw [exec_byteReceived hop, exec_byteReceived (State.endFrame_operating.trans hop),
      State.byteArrives_assembling hassembling, if_neg (Nat.not_le.mpr hgap),
      State.byteArrives_unassembled (by rw [hhunts]; nofun)]
  · have hdiscards : ¬((s.port p).receiver.state = .ready ∨ 30 ≤ (s.port p).receiver.gap) := by
      rw [hhunting]
      rintro (hready | hrested)
      · cases hready
      · omega
    rw [exec_byteReceived hop, State.byteArrives_unassembled (by rw [hhunting]; nofun), State.changeReceiver,
      Receiver.unassembled, if_neg hdiscards]
  · simp only [exec, execReceiveReadyExpiry, State.whileOperating_of_operating hop, go, State.changeReceiver,
      Receiver.rested, if_pos hhunting]

end Sys2Proof.Machine
end

section
/-! PROOF. O48, O49: the transmitter's turns, one equation for each sort it takes, and the queues at an answer. -/
namespace Sys2Proof.Machine

/-! ### What a free transmitter takes (R151, R152) -/

theorem Port.take_of_not_free {x : Port} (hbusy : x.transmitter ≠ .free) (n : Nat) : x.take n = x := by
  cases n with
  | zero => rfl
  | succ n => rw [Port.take, if_pos hbusy]

section
variable {x : Port} (hfree : x.transmitter = .free) (n : Nat)

theorem Port.take_nothing (hreplies : x.replies = []) (hslot : x.slot = none) : x.take n = x := by
  cases n with
  | zero => rfl
  | succ n => simp only [Port.take, hreplies, hslot, ite_self]

include hfree

/-- R151, R158: a STATUS frame, alone or after a reply. -/
theorem Port.take_status {payload : List Byte} (hslot : x.slot = some payload)
    (hturn : x.replies = [] ∨ x.lastSent = .reply) : x.take (n + 1) = x.beginStatus payload := by
  rw [Port.take, if_neg (not_not_intro hfree)]
  cases hreplies : x.replies with
  | nil => simp only [hslot]
  | cons r rest =>
    have hsent : x.lastSent = .reply := hturn.resolve_left (by rw [hreplies]; nofun)
    simp only [hslot, hsent]

/-- R151, R152: a reply, alone or after a STATUS frame: sent by an UP port, else removed unsent (log 14). -/
theorem Port.take_reply {r : WaitingReply} {rest : List WaitingReply} (hreplies : x.replies = r :: rest)
    (hturn : x.slot = none ∨ x.lastSent = .status) :
    x.take (n + 1) = if x.state = .up then
        { x with replies := rest, lastSent := .reply, transmitter := .sending .reply r.reply.frame }
      else { x with replies := rest, lastSent := .reply }.take n := by
  rw [Port.take, if_neg (not_not_intro hfree)]
  cases hslot : x.slot with
  | none => simp only [hreplies]
  | some payload =>
    have hsent : x.lastSent = .status := hturn.resolve_left (by rw [hslot]; nofun)
    simp only [hreplies, hsent]

theorem Port.take_sent {r : WaitingReply} {rest : List WaitingReply} (hreplies : x.replies = r :: rest)
    (hturn : x.slot = none ∨ x.lastSent = .status) (hup : x.state = .up) :
    x.take (n + 1)
      = { x with replies := rest, lastSent := .reply, transmitter := .sending .reply r.reply.frame } :=
  (Port.take_reply hfree n hreplies hturn).trans (if_pos hup)

theorem Port.take_removed {r : WaitingReply} {rest : List WaitingReply} (hreplies : x.replies = r :: rest)
    (hturn : x.slot = none ∨ x.lastSent = .status) (hdown : x.state ≠ .up) :
    x.take (n + 1) = { x with replies := rest, lastSent := .reply }.take n :=
  (Port.take_reply hfree n hreplies hturn).trans (if_neg hdown)

/-- R152: a port that is not UP, with no STATUS frame waiting, removes every reply unsent. -/
theorem Port.take_unsent (hdown : x.state ≠ .up) (hslot : x.slot = none) (hfuel : x.replies.length ≤ n) :
    (x.take n).replies = [] ∧ (x.take n).transmitter = .free ∧ (x.take n).checkTest = x.checkTest := by
  induction n generalizing x with
  | zero => exact ⟨List.eq_nil_of_length_eq_zero (Nat.le_zero.mp hfuel), hfree, rfl⟩
  | succ n ih =>
    cases hreplies : x.replies with
    | nil => rw [Port.take_nothing _ hreplies hslot]; exact ⟨hreplies, hfree, rfl⟩
    | cons r rest =>
      rw [Port.take_removed hfree n hreplies (.inl hslot) hdown]
      rw [hreplies, List.length_cons] at hfuel
      exact ih (x := { x with replies := rest, lastSent := .reply }) hfree hdown hslot (Nat.le_of_succ_le_succ hfuel)

end

/-! ### Moving on (R146, R147) -/

section
variable (x : Port)

/-- Handing on moves nothing that the transmitter has taken. -/
theorem Port.advance_of_take {x y : Port} (h : x.take (x.replies.length + 1) = y) :
    x.advance.transmitter = y.transmitter ∧ x.advance.replies = y.replies ∧ x.advance.slot = y.slot
      ∧ x.advance.lastSent = y.lastSent ∧ x.advance.checkTest = y.checkTest := by
  rw [Port.advance, h, Port.handOn_spec]
  exact ⟨rfl, rfl, rfl, rfl, rfl⟩

/-- R146: the head is handed on by the reply queue that the transmitter has left. -/
theorem Port.advance_outstanding :
    x.advance.outstanding = (x.outstanding || x.queue.head?.any fun q =>
      q.kind == .useReport || decide (x.advance.replies.length < 4)) := by
  obtain ⟨-, -, -, hqueue, houtstanding, -⟩ := x.take_spec (x.replies.length + 1)
  obtain ⟨-, hreplies, -⟩ := Port.advance_of_take (x := x) rfl
  rw [hreplies, Port.advance, Port.handOn_spec, Port.outstanding_or_mayHandOn, hqueue, houtstanding]

/-- The port whose transmitter has left its gap. -/
def Port.freed : Port := { x with transmitter := .free }

theorem Port.gapEnds_of_gap {x : Port} (h : x.transmitter = .gap) : x.gapEnds = x.freed.advance := by
  simp only [Port.gapEnds, h]
  rfl

/-- The port that has been handed a reply, before it moves on. -/
def Port.replied (reply : Reply) : Port := { x.dequeue with replies := x.replies ++ [x.handed reply] }

theorem Port.answer_eq (reply : Reply) : x.answer reply = (x.replied reply).advance := rfl

/-- R199: a frame ends in its check byte. -/
theorem frameOf_check (kind : MessageKind) (payload : List Byte) :
    (frameOf kind payload).getLast? = some (checkByte (frameOf kind payload).dropLast) := by
  rw [frameOf, List.getLast?_concat, List.dropLast_concat]

end

/-! ### The rows (R151, R157) -/

section
variable {s : State} {p : PortName}

theorem State.setPort_setPort_same (x y : Port) : (s.setPort p x).setPort p y = s.setPort p y := by
  cases p <;> rfl

theorem exec_frameSent (hop : s.operating = true) {sort : FrameSort} {bytes : List Byte}
    (hsending : (s.port p).transmitter = .sending sort bytes) :
    exec (.frameSent p) s = .next (s.setPort p { s.port p with transmitter := .gap }) := by
  simp only [exec, execFrameSent, State.whileOperating_of_operating hop, go, Port.frameSent, hsending]

theorem exec_transmitGapExpiry (hop : s.operating = true) (hgap : (s.port p).transmitter = .gap) :
    exec (.transmitGapExpiry p) s = .next (s.setPort p (s.port p).freed.advance) := by
  simp only [exec, execTransmitGapExpiry, State.whileOperating_of_operating hop, go, Port.gapEnds_of_gap hgap]

theorem exec_checkTest {r : Request} (hop : s.operating = true) (hr : s.served p .checkTest = some r) :
    exec (.checkTest p) s = .next (s.setPort p (if 8 < r.byte 0 then (s.port p).answer ⟨.checkTest, .badField, []⟩
      else { s.port p with checkTest := r.byte 0 }.answer ⟨.checkTest, .ok, []⟩)) := by
  simp only [exec, execCheckTest, hr, State.whileOperating_of_operating hop, go, State.serveCheckTest]
  split
  · rfl
  · simp only [State.answerCode, State.answer, State.port_setPort_same, State.setPort_setPort_same]

end

/-- Settles O49: what the transmitter takes is by `Port.take_status`, `Port.take_sent` and `Port.take_unsent`, and moving on
hands on the head beside it (`Port.advance_outstanding`). -/
theorem transmitterTakesTurns : Obligations.TransmitterTakesTurns := by
  rintro s p _ hop rfl
  refine ⟨fun sort bytes hsending => exec_frameSent hop hsending, fun hgap => ?_, fun reply hbusy => ?_⟩
  · refine ⟨_, exec_transmitGapExpiry hop hgap, fun q hq => State.port_setPort_other _ _ _ _ hq, rfl, ?_⟩
    rw [State.port_setPort_same]
    generalize s.port p = x
    have hfree : x.freed.transmitter = .free := rfl
    refine ⟨fun hreplies hslot => ?_, fun payload hslot hturn => ?_, fun r rest hreplies hup hturn => ?_,
      fun hdown hslot => ?_, fun payload hdown hslot hreplies hsent => ?_, ?_, x.freed.advance_outstanding⟩
    · obtain ⟨htransmitter, -⟩ := Port.advance_of_take (Port.take_nothing (x := x.freed) _ hreplies hslot)
      exact htransmitter
    · obtain ⟨htransmitter, hreplies, hempty, hsent, htest⟩ :=
        Port.advance_of_take (Port.take_status hfree _ hslot hturn)
      exact ⟨hempty, hsent, htest, hreplies, htransmitter⟩
    · obtain ⟨htransmitter, hrest, hslot, hsent, htest⟩ :=
        Port.advance_of_take (Port.take_sent hfree _ hreplies hturn hup)
      exact ⟨htransmitter, hrest, hslot, hsent, htest⟩
    · obtain ⟨htransmitter, hreplies, -, -, htest⟩ := Port.advance_of_take (x := x.freed) rfl
      rw [hreplies, htransmitter, htest]
      exact Port.take_unsent hfree _ hdown hslot (Nat.le_succ _)
    · obtain ⟨r, rest, hcons⟩ := List.exists_cons_of_ne_nil hreplies
      have hlength : x.freed.replies.length = rest.length + 1 := congrArg List.length hcons
      have htaken : x.freed.take (x.freed.replies.length + 1)
          = { x.freed with replies := rest, lastSent := .reply }.beginStatus payload := by
        rw [Port.take_removed hfree _ hcons (.inr hsent) hdown, hlength]
        exact Port.take_status (x := { x.freed with replies := rest, lastSent := .reply }) rfl _ hslot (.inr rfl)
      obtain ⟨htransmitter, hreplies, hempty, hsent, htest⟩ := Port.advance_of_take htaken
      exact ⟨by rw [hreplies, hcons]; rfl, hempty, hsent, htest, htransmitter⟩
    · obtain ⟨-, -, -, hqueue, -⟩ := x.freed.advance_spec
      exact hqueue
  · obtain ⟨-, hreplies, -⟩ := Port.advance_of_take (Port.take_of_not_free (x := (s.port p).replied reply) hbusy _)
    exact hreplies

/-- Settles O48: an answer is `Port.replied` moved on, so its queues are those of `Port.advance_outstanding`, and a reply
that waits alone, or after a STATUS frame, is taken by `Port.take_sent`. -/
theorem checkTestServed : Obligations.CheckTestServed := by
  intro s p r hop hr
  refine ⟨fun hbad => ?_, fun hcount => ?_, fun q hq t ht => ?_, fun x code rest hfree hup hturn hreplies => ?_,
    fun x reply => ⟨?_, ?_, fun hfree hup hslot hreplies => ?_⟩, fun x => ?_⟩
  · rw [exec_checkTest hop hr, if_pos hbad]
  · rw [exec_checkTest hop hr, if_neg (Nat.not_lt.mpr hcount)]
  · rw [exec_checkTest hop hr] at ht
    cases ht
    exact State.port_setPort_other _ _ _ _ hq
  · obtain ⟨w, ws, hw, hreply, -⟩ := List.map_eq_cons_iff.mp hreplies
    refine ⟨?_, frameOf_check _ _⟩
    obtain ⟨htransmitter, -⟩ := Port.advance_of_take (Port.take_sent hfree _ hw hturn hup)
    rw [htransmitter, hreply]
  · exact (Port.answer_spec x reply).1
  · rw [Port.answer_eq, Port.advance_outstanding]
    rfl
  · have hwaits : (x.replied reply).replies = [x.handed reply] := by rw [Port.replied, hreplies]; rfl
    obtain ⟨htransmitter, hreplies, -⟩ :=
      Port.advance_of_take (Port.take_sent (x := x.replied reply) hfree _ hwaits (.inl hslot) hup)
    exact ⟨htransmitter, hreplies⟩
  · rw [Port.handOn_spec, Port.outstanding_or_mayHandOn]
    rfl

end Sys2Proof.Machine
end

section
/-! PROOF. O50: the session's two requests and CAL_READ: a request is answered by the first check that it fails, and what a
refusal leaves is the last result. -/
namespace Sys2Proof.Machine

section
variable {s : State} {r : Request}

/-! ### The request served (R167, R170) -/

theorem State.calibrationServed_of_idle {kind : MessageKind} (hidle : s.cst.operation = none) :
    s.calibrationServed kind = s.served .c kind := by
  rw [State.calibrationServed, hidle]
  rfl

theorem exec_calOpen (hop : s.operating = true) (hidle : s.cst.operation = none)
    (hr : s.served .c .calOpen = some r) : exec .calOpen s = .next s.serveOpen := by
  simp only [exec, execCalOpen, State.calibrationServed_of_idle hidle, hr, State.whileOperating_of_operating hop, go]

theorem exec_calClose (hop : s.operating = true) (hidle : s.cst.operation = none)
    (hr : s.served .c .calClose = some r) :
    exec .calClose s = .next (s.serveCalibration r (s.closeSession.answerCalibration .calClose .ok [])) := by
  simp only [exec, execCalClose, State.calibrationServed_of_idle hidle, hr, State.whileOperating_of_operating hop, go]

theorem exec_calRead (hop : s.operating = true) (hidle : s.cst.operation = none)
    (hr : s.served .c .calRead = some r) :
    exec .calRead s = .next (s.serveCalibration r (s.answerCalibration .calRead .ok (s.readRest r))) := by
  simp only [exec, execCalRead, State.calibrationServed_of_idle hidle, hr, State.whileOperating_of_operating hop, go]

/-! ### The checks (R155, R167, R168) -/

/-- R168: the checks of a CAL_OPEN. -/
theorem State.openCode_eq :
    s.openCode = if s.running = false then .notReady
      else if (s.port .c).state ≠ .up ∨ s.cst.serviceAsserted = false then .noService
      else if 0 < s.sif.vRef ∨ s.sif.vRefValid = false then .notStandstill else .ok := by
  unfold State.openCode
  cases s.running <;> rfl

/-- R167: a CAL_CLOSE and a CAL_READ need RUNNING, fields in their ranges and an OPEN session, in that order. -/
theorem State.calibrationRefusal_of_reading (hkind : r.kind = .calClose ∨ r.kind = .calRead) :
    s.calibrationRefusal r = if s.running = false then some .notReady
      else if r.calibrationFieldBad = true then some .badField
      else if s.cst.session = .closed then some .noService else none := by
  unfold State.calibrationRefusal
  rcases hkind with hkind | hkind
  · rw [hkind]; cases s.running <;> rfl
  · rw [hkind]; cases s.running <;> rfl

theorem Request.calibrationFieldBad_of_close (hkind : r.kind = .calClose) : r.calibrationFieldBad = false := by
  rw [Request.calibrationFieldBad, hkind]

/-- R167, R171: the fields of a CAL_READ. -/
theorem Request.calibrationFieldBad_of_read (hkind : r.kind = .calRead) :
    r.calibrationFieldBad = true
      ↔ sectorOfCode (r.byte 0) = none ∨ r.byte 2 = 0 ∨ 24 < r.byte 2 ∨ 256 < r.byte 1 + r.byte 2 := by
  simp only [Request.calibrationFieldBad, hkind, fitsSector, Bool.or_eq_true, Option.isNone_iff_eq_none, beq_iff_eq,
    decide_eq_true_eq, Bool.not_eq_true', decide_eq_false_iff_not, Nat.not_le, or_assoc]

theorem State.serveCalibration_refused {code : ReplyCode} {t : State} (h : s.calibrationRefusal r = some code) :
    s.serveCalibration r t = s.answerCalibration r.kind code [] := by
  rw [State.serveCalibration, h]

theorem State.serveCalibration_accepted {t : State} (h : s.calibrationRefusal r = none) : s.serveCalibration r t = t := by
  rw [State.serveCalibration, h]

end

/-- Settles O50: each request's code is that of its checks, a CAL_CLOSE's without fields. -/
theorem sessionAndReads : Obligations.SessionAndReads := by
  intro s r hop hidle
  refine ⟨fun code hr hcode => ?_, fun code hr hcode => ?_, fun k hrun hr hopen hk hpos hmax hfits => ?_,
    fun code hr hcode c hc => ?_⟩
  · rw [exec_calOpen hop hidle hr, State.serveOpen, hcode, ← State.openCode_eq]
    by_cases hok : s.openCode = .ok
    · simp only [if_pos hok]
      rw [hok]
      rfl
    · simp only [if_neg hok]
      rfl
  · obtain ⟨-, hkind⟩ := State.served_iff.mp hr
    have hrefusal := State.calibrationRefusal_of_reading (s := s) (.inl hkind)
    simp only [Request.calibrationFieldBad_of_close hkind, Bool.false_eq_true, if_false] at hrefusal
    rw [exec_calClose hop hidle hr]
    split_ifs at hcode hrefusal with hrun hclosed
    · rw [State.serveCalibration_refused hrefusal, hcode, hkind]; rfl
    · rw [State.serveCalibration_refused hrefusal, hcode, hkind]; rfl
    · rw [State.serveCalibration_accepted hrefusal, hcode]; rfl
  · obtain ⟨-, hkind⟩ := State.served_iff.mp hr
    have hgood : ¬r.calibrationFieldBad = true := by
      rw [Request.calibrationFieldBad_of_read hkind, hk]
      rintro (⟨⟨⟩⟩ | hbad)
      omega
    have hrefusal := State.calibrationRefusal_of_reading (s := s) (.inr hkind)
    rw [if_neg (by rw [hrun]; nofun), if_neg hgood, if_neg (by rw [hopen]; nofun)] at hrefusal
    rw [exec_calRead hop hidle hr, State.serveCalibration_accepted hrefusal, State.readRest, Request.sector, hk]
    rfl
  · obtain ⟨-, hkind⟩ := State.served_iff.mp hr
    have hrefusal : s.calibrationRefusal r = code := by
      rw [State.calibrationRefusal_of_reading (.inr hkind), hcode]
      simp only [Request.calibrationFieldBad_of_read hkind]
    rw [exec_calRead hop hidle hr, State.serveCalibration_refused (hrefusal.trans hc), hkind]
    rfl

end Sys2Proof.Machine
end

section
/-! SUPPORT. Which operations leave the array of the calibration store alone: one frame lemma per shared operation, through
one projection. -/
namespace Sys2Proof.Machine

/-- What the laws of the store read: its flash, its working copy, its lock state and the operation in flight. -/
def State.array (s : State) : Memory × WorkingCopy × LockState × Option OperationInFlight :=
  (s.cst.flash, s.cst.working, s.cst.lock, s.cst.operation)

theorem State.array_eq_iff {s t : State} :
    t.array = s.array ↔ t.cst.flash = s.cst.flash ∧ t.cst.working = s.cst.working ∧ t.cst.lock = s.cst.lock
      ∧ t.cst.operation = s.cst.operation := by
  simp only [State.array, Prod.mk.injEq]

theorem State.array_of_cst {s t : State} (h : t.cst = s.cst) : t.array = s.array := by simp only [State.array, h]

theorem State.array_of_besideClamps {s t : State} (h : t.besideClamps = s.besideClamps) : t.array = s.array :=
  State.array_of_cst (congrArg State.cst h :)

section
variable (s : State)

/-! ### The sample path and the estimate -/

@[simp] theorem State.silenceRises_array (p : PortName) : (s.silenceRises p).array = s.array := by
  rw [State.silenceRises_frame]; rfl

@[simp] theorem State.cycleTimerExpires_array : s.cycleTimerExpires.array = s.array := by
  cases htimer : s.leu.cycleTimer with
  | none => simp only [State.cycleTimerExpires, htimer]
  | some n =>
    rw [State.cycleTimerExpires_of_running htimer, State.silencesRise]
    simp only [State.silenceRises_array]
    rfl

/-- R169: a completed sample may close the session, which is no part of the array. -/
@[simp] theorem State.transactionCompletes_array (block : Vector Byte 16) :
    (s.transactionCompletes block).array = s.array := by
  unfold State.transactionCompletes
  split
  · rw [State.sampleCompleted_eq, State.array_eq_iff]
    dsimp only
    split <;> exact ⟨rfl, rfl, rfl, rfl⟩
  · rfl

@[simp] theorem State.captureTooth_array (w : Wheel) (edge : Nat) : (s.captureTooth w edge).array = s.array :=
  (State.array_of_besideClamps (State.handOnCapture_besideClamps _ _ _ _ _)).trans rfl

@[simp] theorem State.publishEstimate_array : s.publishEstimate.array = s.array := by
  by_cases hidle : s.leu.work = .idle
  · simp only [State.publishEstimate, hidle, if_true]
  · rw [State.publishEstimate_eq hidle, State.array_of_besideClamps (State.monitorsPublication_besideClamps _ _)]
    rfl

@[simp] theorem State.lockWindowExpires_array (m : MonitorName) : (s.lockWindowExpires m).array = s.array := by
  unfold State.lockWindowExpires
  split
  · rfl
  · dsimp only
    split
    · exact State.array_of_besideClamps (State.triggerHard_besideClamps _ _ _ _)
    · rfl

/-! ### Budgets and grants -/

@[simp] theorem State.publishBudget_array : s.publishBudget.array = s.array := by
  unfold State.publishBudget
  split
  · split
    · rfl
    · rw [State.computeBudget_eq]; rfl
  · rfl

@[simp] theorem State.profileSetServed_array (r : Request) : (s.profileSetServed r).array = s.array := by
  unfold State.profileSetServed State.profileSetAt State.serveProfileSet
  split <;> rfl

@[simp] theorem State.takeService_array : s.takeService.array = s.array := by
  unfold State.takeService
  split
  · split <;> rfl
  · rfl

@[simp] theorem State.completeReevaluation_array : s.completeReevaluation.array = s.array := by
  unfold State.completeReevaluation
  split
  · exact State.array_of_besideClamps (s := s) (t := s.countDown.reshare) (by simp)
  · rfl

@[simp] theorem State.rewriteCompletes_array : s.rewriteCompletes.array = s.array := by
  unfold State.rewriteCompletes
  split <;> rfl

@[simp] theorem State.serveGrantRequest_array (h : Holder) (r : Request) : (s.serveGrantRequest h r).array = s.array := by
  unfold State.serveGrantRequest
  split
  next k _ _ =>
    exact State.array_of_besideClamps (s := s) (t := s.grantWritten k r.force) (by simp [State.grantWritten])
  all_goals rfl

@[simp] theorem State.serveGrantRelease_array (h : Holder) (r : Request) : (s.serveGrantRelease h r).array = s.array := by
  unfold State.serveGrantRelease
  split
  · split
    · exact State.array_of_cst (s.writeGrant_cst _ none)
    · rfl
  all_goals rfl

@[simp] theorem State.useReported_array (h : Holder) (r : Request) : (s.useReported h r).array = s.array := by
  unfold State.useReported State.takeReport
  split
  · split
    · rfl
    · exact State.array_of_besideClamps (s.writeGrant_besideClamps _ _)
  all_goals rfl

/-! ### The monitors' requests and the ports -/

@[simp] theorem State.serveClampClear_array (p : PortName) (r : Request) : (s.serveClampClear p r).array = s.array := by
  have hcleared : (s.clampCleared r).cst = s.cst := by
    unfold State.clampCleared
    split
    · rfl
    · exact s.endClamp_cst _ _
  unfold State.serveClampClear
  split
  · exact State.array_of_cst hcleared
  · rfl

@[simp] theorem State.serveShiftNotice_array : s.serveShiftNotice.array = s.array := by
  unfold State.serveShiftNotice State.shiftNoticed
  split
  · split <;> rfl
  · rfl

@[simp] theorem State.serveCheckTest_array (p : PortName) (r : Request) : (s.serveCheckTest p r).array = s.array := by
  unfold State.serveCheckTest
  split <;> rfl

@[simp] theorem State.arrive_array (p : PortName) (r : Request) : (s.arrive p r).array = s.array := by
  obtain ⟨-, -, -, -, -, hcst, -⟩ := s.linkPresence_spec p
  unfold State.arrive
  dsimp only
  split
  · exact State.array_of_cst hcst
  · exact State.array_of_cst hcst

@[simp] theorem State.endFrame_array (p : PortName) : (s.endFrame p).array = s.array := by
  unfold State.endFrame
  dsimp only
  split
  · rfl
  · rw [State.arrive_array]; rfl

@[simp] theorem State.frameEnds_array (p : PortName) : (s.frameEnds p).array = s.array := by
  unfold State.frameEnds
  split <;> simp

@[simp] theorem State.byteArrives_array (p : PortName) (byte : Byte) (fault : Bool) :
    (s.byteArrives p byte fault).array = s.array := by
  unfold State.byteArrives
  split
  · split
    · rfl
    · exact s.endFrame_array p
  all_goals rfl

@[simp] theorem State.linkHeld_array (p : PortName) : (s.linkHeld p).array = s.array := by
  unfold State.linkHeld
  split <;> simp

/-! ### The service input and the session -/

@[simp] theorem State.sampleService_array (high : Bool) : (s.sampleService high).array = s.array := by
  have hsampled : (s.setCst (s.cst.sampleService high)).array = s.array := by
    rw [State.array_eq_iff, State.setCst_cst]
    unfold Cst.sampleService
    split_ifs <;> exact ⟨rfl, rfl, rfl, rfl⟩
  unfold State.sampleService
  dsimp only
  split
  · exact hsampled
  · exact hsampled

@[simp] theorem State.answerCalibration_array (kind : MessageKind) (code : ReplyCode) (rest : List Byte) :
    (s.answerCalibration kind code rest).array = s.array := rfl

@[simp] theorem State.serveOpen_array : s.serveOpen.array = s.array := by
  unfold State.serveOpen
  split <;> rfl

theorem State.whileOperating_array {s t : State} (h : t.array = s.array) : (s.whileOperating t).array = s.array :=
  State.whileOperating_keeps (P := fun u => u.array = s.array) rfl h

end
end Sys2Proof.Machine
end

section
/-! SUPPORT. How a command of the operating part can move the array of the calibration store, once and for all: it leaves it,
starts an operation, completes one, or takes a fresh working copy. -/
namespace Sys2Proof

/-- The commands that may touch the array: the calibration requests that start an operation, the completions, the load, and
the supervisor's. -/
def Instr.movesArray : Instr → Bool
  | .calErase | .calProgram | .calLock | .calWipe | .loadCompletion => true
  | c => c.isFlashCompletion || c.isSupervision

end Sys2Proof

namespace Sys2Proof.Machine

/-- The operations that a LOCKED store refuses: they change a sector's bytes, a wipe apart (R165, R167). -/
def FlashOperation.needsUnlocked : FlashOperation → Bool
  | .erase _ | .program _ _ _ => true
  | .lock | .wipe _ _ => false

/-- What an operation's completion can leave of the flash, the row of a wipe's next erase among them: an erase of its sector,
a program, the lock word's program, one sector's erase of a wipe, or for a wipe whose erases are over the flash as it is
(R172 to R176). -/
inductive FlashOperation.Leaves (m : Memory) : FlashOperation → Memory → Prop
  | erased (k : Sector) (left : ArrayLeft) : Leaves m (.erase k) (m.afterErase k left)
  | programmed (k : Sector) (offset : Nat) (bytes : List Byte) (left : ArrayLeft) :
      Leaves m (.program k offset bytes) (m.afterProgram k offset bytes left)
  | locked (left : ArrayLeft) : Leaves m .lock (m.afterLock left)
  | wiped (erased : Nat) (clean : Bool) (k : Sector) (left : ArrayLeft) :
      Leaves m (.wipe erased clean) (m.afterErase k left)
  | wipeEnded (erased : Nat) (clean : Bool) : Leaves m (.wipe erased clean) m

/-- How a command of the operating part can move the array. -/
inductive State.ArrayStep (s : State) : Instr → State → Prop
  | stands {c : Instr} {t : State} (harray : t.array = s.array) : ArrayStep s c t
  | starts {c : Instr} {t : State} {o : OperationInFlight} (hrunning : s.running = true)
      (hunlocked : o.operation.needsUnlocked = true → s.cst.lock = .unlocked) (hflash : t.cst.flash = s.cst.flash)
      (hworking : t.cst.working = s.cst.working) (hlock : t.cst.lock = s.cst.lock)
      (hoperation : t.cst.operation = some o) : ArrayStep s c t
  | completes {c : Instr} {t : State} {o : OperationInFlight} (hc : c.isFlashCompletion = true)
      (ho : s.cst.operation = some o) (hflash : o.operation.Leaves s.cst.flash t.cst.flash)
      (hworking : t.cst.working = s.cst.working)
      (hnext : ∀ p, t.cst.operation = some p → p.operation.needsUnlocked = false) : ArrayStep s c t
  | loads {t : State} (hloading : s.sup.start = .loading) (hflash : t.cst.flash = s.cst.flash)
      (hoperation : t.cst.operation = s.cst.operation) : ArrayStep s .loadCompletion t

/-! ### The commands that move nothing of it -/

theorem exec_array (c : Instr) (s : State) (hc : c.movesArray = false) :
    LeadsTo (fun t => t.array = s.array) (exec c s) := by
  have hestimate : s.estimateStep.array = s.array := State.whileOperating_array s.publishEstimate_array
  cases c with
  | cycleTimerExpiry => exact leadsTo_operating rfl s.cycleTimerExpires_array
  | silenceCountExpiry p => exact leadsTo_occurring rfl (State.whileOperating_array s.cycleTimerExpires_array)
  | transactionCompletion block => exact leadsTo_operating rfl (s.transactionCompletes_array block)
  | estimatePublication => exact leadsTo_go hestimate
  | coastCountExpiry => exact leadsTo_occurring rfl hestimate
  | settlingGoodCountReached => exact leadsTo_occurring rfl hestimate
  | delayCountExpiry m => exact leadsTo_occurring rfl hestimate
  | softHoldExpiry m => exact leadsTo_occurring rfl hestimate
  | blankingExpiry m => exact leadsTo_occurring rfl hestimate
  | hardAutoEnd m => exact leadsTo_occurring rfl hestimate
  | budgetPublication => exact leadsTo_operating rfl s.publishBudget_array
  | greServiceTake => exact leadsTo_operating rfl s.takeService_array
  | reevaluationCompletion => exact leadsTo_operating rfl s.completeReevaluation_array
  | grantCountdownExpiry k =>
    exact leadsTo_occurring rfl (State.whileOperating_array s.completeReevaluation_array)
  | retainedRewriteCompletion => exact leadsTo_operating rfl s.rewriteCompletes_array
  | linePeriodStart l => exact leadsTo_operating rfl rfl
  | linePulseEnd l => exact leadsTo_operating rfl rfl
  | toothCapture w edge => exact leadsTo_operating rfl (s.captureTooth_array w edge)
  | wheelRevalidated w edge => exact leadsTo_occurring rfl (State.whileOperating_array (s.captureTooth_array w edge))
  | silenceExpiry w => exact leadsTo_operating rfl rfl
  | lockWindowExpiry m => exact leadsTo_operating rfl (s.lockWindowExpires_array m)
  | receiveReadyExpiry p => exact leadsTo_operating rfl rfl
  | frameReceived p => exact leadsTo_operating rfl (s.frameEnds_array p)
  | byteReceived p byte fault => exact leadsTo_operating rfl (s.byteArrives_array p byte fault)
  | linkHold p => exact leadsTo_operating rfl (s.linkHeld_array p)
  | transmitGapExpiry p => exact leadsTo_operating rfl rfl
  | frameSent p => exact leadsTo_operating rfl rfl
  | grantRequest =>
    simp only [exec, execGrantRequest]
    split
    · exact leadsTo_go rfl
    · exact leadsTo_operating rfl (s.serveGrantRequest_array _ _)
  | grantRelease =>
    simp only [exec, execGrantRelease]
    split
    · exact leadsTo_go rfl
    · exact leadsTo_operating rfl (s.serveGrantRelease_array _ _)
  | useReport =>
    simp only [exec, execUseReport]
    split
    · exact leadsTo_go rfl
    · exact leadsTo_operating rfl (s.useReported_array _ _)
  | clampClear p => exact leadsTo_found _ rfl fun r _ => s.serveClampClear_array p r
  | shiftNotice => exact leadsTo_found _ rfl fun _ _ => s.serveShiftNotice_array
  | profileSet => exact leadsTo_found _ rfl fun r _ => s.profileSetServed_array r
  | checkTest p => exact leadsTo_found _ rfl fun r _ => s.serveCheckTest_array p r
  | calOpen => exact leadsTo_found _ rfl fun _ _ => s.serveOpen_array
  | calClose => exact leadsTo_serveCalibration_of rfl (s.answerCalibration_array · · ·) fun _ => rfl
  | calRead => exact leadsTo_serveCalibration_of rfl (s.answerCalibration_array · · ·) fun _ => rfl
  | sensorWaitExpiry =>
    refine leadsTo_go ?_
    split <;> rfl
  | svcSample high => exact leadsTo_operating rfl (s.sampleService_array high)
  | svcAsserted => exact leadsTo_occurring rfl (State.whileOperating_array (s.sampleService_array true))
  | svcReleased => exact leadsTo_occurring rfl (State.whileOperating_array (s.sampleService_array false))
  | _ => cases hc

section
variable {s : State} {c : Instr}

/-! ### A request that starts an operation (R167, R170) -/

/-- R167: a request accepted finds the part in RUNNING and, where the lock state refuses its kind, the store UNLOCKED. -/
theorem State.accepted_running {r : Request} (h : s.calibrationRefusal r = none) :
    s.running = true ∧ (lockRefuses r.kind = true → s.cst.lock = .unlocked) := by
  unfold State.calibrationRefusal at h
  split_ifs at h with hrun hbad hclosed hlocked
  refine ⟨by simpa using hrun, fun hkind => ?_⟩
  cases hlock : s.cst.lock with
  | locked => simp [hkind, hlock] at hlocked
  | unlocked => rfl

theorem leadsTo_startOperation {kind : MessageKind} {o : Request → FlashOperation} {n : Nat}
    (ho : ∀ r, (o r).needsUnlocked = lockRefuses kind) :
    LeadsTo (s.ArrayStep c) (match s.calibrationServed kind with
      | none => go s
      | some r => go (s.whileOperating (s.serveCalibration r (s.startOperation (o r) n)))) := by
  refine leadsTo_found (t := fun r => s.serveCalibration r (s.startOperation (o r) n)) _ (.stands rfl) fun r hr => ?_
  unfold State.serveCalibration
  split
  · exact .stands rfl
  next haccepted =>
    obtain ⟨hrunning, hunlocked⟩ := State.accepted_running haccepted
    unfold State.calibrationServed at hr
    split at hr
    · cases hr
    obtain ⟨-, rfl⟩ := State.served_iff.mp hr
    exact .starts (o := ⟨o r, n⟩) hrunning (fun h => hunlocked (ho r ▸ h)) rfl rfl rfl rfl

/-! ### A completion (R170, R172 to R176) -/

theorem State.wipeNext_arrayStep (hc : c.isFlashCompletion = true) (left : ArrayLeft) :
    s.ArrayStep c (s.wipeNext left) := by
  unfold State.wipeNext
  split
  next erased clean n ho =>
    split
    · exact .completes hc ho (.wiped erased clean _ left) rfl (by rintro p ⟨⟩; rfl)
    · exact .stands rfl
  all_goals exact .stands rfl

theorem State.wipeCompletes_arrayStep (hc : c.isFlashCompletion = true) : s.ArrayStep c s.wipeCompletes := by
  unfold State.wipeCompletes
  split
  next erased clean n ho =>
    split
    · exact .completes hc ho (.wipeEnded erased clean) rfl nofun
    · exact .stands rfl
  all_goals exact .stands rfl

/-- R176: the fourth sector's erase, and the completion after it (log 26). -/
theorem State.lastWipe_arrayStep (hc : c.isFlashCompletion = true) (left : ArrayLeft) (hlast : s.cst.lastWipe = true) :
    s.ArrayStep c (s.wipeNext left).wipeCompletes := by
  unfold Cst.lastWipe at hlast
  split at hlast
  next erased clean n ho =>
    obtain rfl : erased = 3 := by simpa using hlast
    have hnext : s.wipeNext left = s.setCst (s.cst.wipeOne .s3 3 clean n left) := by
      simp only [State.wipeNext, ho]; rfl
    rw [hnext]
    exact .completes hc ho (.wiped 3 clean .s3 left) rfl nofun
  all_goals cases hlast

theorem exec_completion_arrayStep (hc : c.isFlashCompletion = true) : LeadsTo (s.ArrayStep c) (exec c s) := by
  cases c with
  | calEraseCompletion left =>
    simp only [exec, execCalEraseCompletion]
    split
    next ho => exact leadsTo_operating (.stands rfl) (.completes rfl ho (.erased _ left) rfl nofun)
    all_goals exact leadsTo_go (.stands rfl)
  | calProgramCompletion left =>
    simp only [exec, execCalProgramCompletion]
    split
    next ho => exact leadsTo_operating (.stands rfl) (.completes rfl ho (.programmed _ _ _ left) rfl nofun)
    all_goals exact leadsTo_go (.stands rfl)
  | calLockCompletion left =>
    simp only [exec, execCalLockCompletion]
    split
    next ho =>
      refine leadsTo_operating (.stands rfl) ?_
      have hended (flash : Memory) : (s.cst.locked flash).flash = flash ∧ (s.cst.locked flash).working = s.cst.working
          ∧ (s.cst.locked flash).operation = none := by
        unfold Cst.locked
        split <;> exact ⟨rfl, rfl, rfl⟩
      obtain ⟨hflash, hworking, hidle⟩ := hended (s.cst.flash.afterLock left)
      have hleaves := FlashOperation.Leaves.locked (m := s.cst.flash) left
      rw [← hflash] at hleaves
      refine .completes rfl ho hleaves hworking fun p hp => ?_
      cases hidle.symm.trans hp
    all_goals exact leadsTo_go (.stands rfl)
  | wipeSectorEraseCompletion left => exact leadsTo_operating (.stands rfl) (State.wipeNext_arrayStep rfl left)
  | calWipeCompletion left =>
    refine leadsTo_operating (.stands rfl) ?_
    split
    next hlast => exact State.lastWipe_arrayStep rfl left hlast
    next => exact State.wipeCompletes_arrayStep rfl
  | _ => cases hc

/-! ### Every command but the supervisor's -/

theorem exec_arrayStep (hc : c.isSupervision = false) : LeadsTo (s.ArrayStep c) (exec c s) := by
  by_cases hquiet : c.movesArray = false
  · exact fun t ht => .stands (exec_array c s hquiet t ht)
  by_cases hcompletion : c.isFlashCompletion = true
  · exact exec_completion_arrayStep hcompletion
  have hmoves : (c.movesArray && !c.isFlashCompletion && !c.isSupervision) = true := by
    rw [Bool.eq_true_of_not_eq_false hquiet, Bool.eq_false_of_not_eq_true hcompletion, hc]; rfl
  cases c with
  | calErase => exact leadsTo_startOperation (o := fun r => .erase r.sector) fun _ => rfl
  | calProgram =>
    exact leadsTo_startOperation (o := fun r => .program r.sector (r.byte 1) r.programBytes) fun _ => rfl
  | calLock => exact leadsTo_startOperation (o := fun _ => .lock) fun _ => rfl
  | calWipe => exact leadsTo_startOperation (o := fun _ => .wipe 0 true) fun _ => rfl
  | loadCompletion =>
    refine leadsTo_go ?_
    unfold State.loadCompletes
    split
    next hloading => exact .loads hloading rfl rfl
    next => exact .stands rfl
  | _ => cases hmoves

end
end Sys2Proof.Machine
end

section
/-! PROOF. O5, O7: where the working copy and the flash may change, and the canonical form of the flash, by what a command can
do to the array. -/
namespace Sys2Proof.Machine

theorem FlashOperation.leaves_wf {m m' : Memory} {o : FlashOperation} (h : o.Leaves m m') (hm : m.wf = true) :
    m'.wf = true := by
  cases h with
  | erased k left => exact Memory.afterErase_wf k left hm
  | programmed k offset bytes left => exact Memory.afterProgram_wf k offset bytes left hm
  | locked left => exact Memory.afterProgram_wf .s3 0 [0] left hm
  | wiped erased clean k left => exact Memory.afterErase_wf k left hm
  | wipeEnded => exact hm

theorem State.arrayStep_wf {s t : State} {c : Instr} (h : s.ArrayStep c t) (hs : s.cst.flash.wf = true) :
    t.cst.flash.wf = true := by
  cases h with
  | stands harray => rwa [(State.array_eq_iff.mp harray).1]
  | starts _ _ hflash => rwa [hflash]
  | completes _ _ hflash => exact FlashOperation.leaves_wf hflash hs
  | loads _ hflash => rwa [hflash]

theorem State.release_flash (s : State) : s.release.cst.flash = s.cst.flash := by
  unfold State.release
  split <;> rfl

/-- R177: an operation cut short by a stop leaves the flash canonical, and nothing else of the supervisor's moves it. -/
theorem flashCanonical_underSupervision : KeptUnderSupervision fun s => s.cst.flash.wf = true where
  sense := fun _ _ _ _ _ h => h
  stop := fun s h => by
    change (s.cst.stopped s.freeCount).flash.wf = true
    cases ho : s.cst.operation with
    | none => rwa [Cst.stopped_none ho]
    | some o => rw [Cst.stopped_some ho]; exact Memory.cutShort_wf _ _ h
  release := fun s h => by rwa [s.release_flash]
  lose := fun _ _ _ _ _ h => h

/-- Settles O7: an ordinary command keeps the form by `State.arrayStep_wf`, one of the supervisor's by its parts, and a tick
moves no byte. -/
theorem flashCanonicalKept : Obligations.FlashCanonicalKept := by
  intro s t hstep hs
  unfold step at hstep
  split at hstep
  next c rest _ =>
    by_cases hc : c.isSupervision = true
    · exact flashCanonical_underSupervision.exec (s := s.setPending rest) hs hc t hstep
    · exact State.arrayStep_wf (exec_arrayStep (Bool.eq_false_of_not_eq_true hc) t hstep) hs
  next =>
    obtain rfl : s.tick = t := by simpa using hstep
    exact State.whileOperating_keeps (P := fun u => u.cst.flash.wf = true) hs hs

/-- Settles O5: of the ways in which a command can move the array only a load replaces the working copy, and only a
completion a byte of flash. -/
theorem storeFrame : Obligations.StoreFrame := by
  refine ⟨fun c s t hexec hc hload => ?_, fun c s t a hexec hc hcompletion => ?_⟩
  · cases exec_arrayStep hc t hexec with
    | stands harray => exact (State.array_eq_iff.mp harray).2.1
    | starts _ _ _ hworking => exact hworking
    | completes _ _ _ hworking => exact hworking
    | loads => exact absurd rfl hload
  · have hflash : t.cst.flash = s.cst.flash := by
      cases exec_arrayStep hc t hexec with
      | stands harray => exact (State.array_eq_iff.mp harray).1
      | starts _ _ hflash => exact hflash
      | completes hcompletes => rw [hcompletion] at hcompletes; cases hcompletes
      | loads _ hflash => exact hflash
    rw [hflash]

end Sys2Proof.Machine
end

section
/-! PROOF. O16: an erase or a program is in flight only in RUNNING with the store UNLOCKED, so that a LOCKED store completes
and cuts short none; what is left, the lock word's program, acts on S3. -/
namespace Sys2Proof.Machine

section
variable {s t : State}

/-! ### What the law says (R165) -/

theorem State.programsUnlocked_iff :
    s.programsUnlocked = true ↔ ∀ o, s.cst.operation = some o →
      s.running = true ∧ (o.operation.needsUnlocked = true → s.cst.lock = .unlocked) := by
  unfold State.programsUnlocked
  cases s.cst.operation with
  | none => simp
  | some o =>
    obtain ⟨operation, n⟩ := o
    cases operation with
    | erase | program | lock | wipe => simp [FlashOperation.needsUnlocked]

theorem State.programsUnlocked_of_idle (h : s.cst.operation = none) : s.programsUnlocked = true :=
  State.programsUnlocked_iff.mpr fun _ ho => nomatch h.symm.trans ho

/-- A part that is held has no operation in flight. -/
theorem State.idle_of_held (hs : s.programsUnlocked = true) (hheld : s.operating = false) : s.cst.operation = none := by
  refine Option.eq_none_iff_forall_ne_some.mpr fun o ho => ?_
  have hrunning : s.sup.start = .running := by
    simpa [State.running] using (State.programsUnlocked_iff.mp hs o ho).1
  simp [State.operating, hrunning] at hheld

/-! ### Holds and releases (R177, R184) -/

theorem State.stopBlocks_idle (s : State) : s.stopBlocks.cst.operation = none :=
  congrArg Cst.operation (s.cst.stopped_frame s.freeCount)

theorem State.stopped_idle (hs : s.programsUnlocked = true) : s.stopped.cst.operation = none := by
  unfold State.stopped
  split
  · exact s.stopBlocks_idle
  next hheld => exact State.idle_of_held hs (Bool.eq_false_of_not_eq_true hheld)

theorem State.release_idle (s : State) : s.release.cst.operation = none := by
  unfold State.release
  split <;> rfl

/-- What moves neither the array nor the start state. -/
theorem State.programsUnlocked_of_eq (harray : t.array = s.array) (hrunning : s.running = true → t.running = true)
    (hs : s.programsUnlocked = true) : t.programsUnlocked = true := by
  obtain ⟨-, -, hlock, hoperation⟩ := State.array_eq_iff.mp harray
  rw [State.programsUnlocked_iff] at hs ⊢
  intro o ho
  obtain ⟨hrun, hunlocked⟩ := hs o (hoperation ▸ ho)
  exact ⟨hrunning hrun, fun h => hlock.trans (hunlocked h)⟩

theorem State.setSup_programsUnlocked {x : Sup} (hx : x.start = s.sup.start) (hs : s.programsUnlocked = true) :
    (s.setSup x).programsUnlocked = true :=
  State.programsUnlocked_of_eq (s := s) rfl (by simp only [State.running, State.setSup_sup, hx, imp_self]) hs

theorem State.enterReset_programsUnlocked (hs : s.programsUnlocked = true) (cause : EntryCause) :
    (s.enterReset cause).programsUnlocked = true := by
  unfold State.enterReset
  split
  · exact State.programsUnlocked_of_idle s.stopBlocks_idle
  · exact hs

theorem State.holdEnds_programsUnlocked (hs : s.programsUnlocked = true) : s.holdEnds.programsUnlocked = true := by
  unfold State.holdEnds
  split
  · exact State.programsUnlocked_of_idle s.release_idle
  · exact hs

theorem State.offEnds_programsUnlocked (hs : s.programsUnlocked = true) : s.offEnds.programsUnlocked = true := by
  unfold State.offEnds
  split
  next hoff =>
    have hidle := State.idle_of_held hs (State.not_operating_of_off hoff)
    exact State.holdEnds_programsUnlocked (s := s.setSup _) (State.programsUnlocked_of_idle hidle)
  next => exact hs

/-! ### The supervisor's senses (R180 to R186) -/

theorem State.supplySampled_programsUnlocked (hs : s.programsUnlocked = true) (mv : Nat) :
    (s.supplySampled mv).programsUnlocked = true := by
  have hwarning : (s.sampleWarning mv).programsUnlocked = true := by
    obtain ⟨low, count, hsample⟩ := s.sup.sampleWarning_eq mv
    refine State.whileOperating_keeps (P := fun u => u.programsUnlocked = true) hs
      (State.setSup_programsUnlocked ?_ hs)
    rw [hsample]
  unfold State.supplySampled
  generalize s.sampleWarning mv = u at hwarning ⊢
  obtain ⟨tripped, count, hsample⟩ := u.sup.sampleLoss_eq mv
  have hloss : (u.setSup (u.sup.sampleLoss mv)).programsUnlocked = true :=
    State.setSup_programsUnlocked (by rw [hsample]) hwarning
  unfold State.sampleLoss
  dsimp only
  split_ifs
  · exact State.enterReset_programsUnlocked hloss _
  · exact State.holdEnds_programsUnlocked hloss
  · exact hloss

theorem State.retainedTick_programsUnlocked (hs : s.programsUnlocked = true) (high : Bool) :
    (s.retainedTick high).programsUnlocked = true := by
  have houtage : s.outageTicked.programsUnlocked = true := by
    unfold State.outageTicked
    split
    · exact hs
    · exact State.setSup_programsUnlocked (by rfl) hs
  unfold State.retainedTick
  generalize s.outageTicked = u at houtage ⊢
  obtain ⟨level, count, hsample⟩ := u.sup.sampleIgnition_eq high
  have hignition : (u.setSup (u.sup.sampleIgnition high)).programsUnlocked = true :=
    State.setSup_programsUnlocked (by rw [hsample]) houtage
  unfold State.ignitionSampled
  dsimp only
  split_ifs
  · exact State.programsUnlocked_of_idle (State.stopped_idle hignition)
  · exact State.offEnds_programsUnlocked hignition
  · exact hignition

theorem exec_supervision_programsUnlocked {c : Instr} (hc : c.isSupervision = true) (hs : s.programsUnlocked = true) :
    LeadsTo (fun t => t.programsUnlocked = true) (exec c s) := by
  have hsensed {x : Sup} (hx : x.start = s.sup.start) := State.setSup_programsUnlocked hx hs
  cases c with
  | supplySample mv => exact leadsTo_go (State.supplySampled_programsUnlocked hs mv)
  | supplyLossTrip mv => exact leadsTo_occurring hs (State.supplySampled_programsUnlocked hs mv)
  | supplyLossClear mv => exact leadsTo_occurring hs (State.supplySampled_programsUnlocked hs mv)
  | lowSupplySet mv => exact leadsTo_occurring hs (State.supplySampled_programsUnlocked hs mv)
  | lowSupplyClear mv => exact leadsTo_occurring hs (State.supplySampled_programsUnlocked hs mv)
  | rstNAssert =>
    refine leadsTo_go (State.enterReset_programsUnlocked (hsensed ?_) _)
    rfl
  | mainDomainPowerUp =>
    refine leadsTo_go (State.enterReset_programsUnlocked (hsensed ?_) _)
    rfl
  | rstNRelease =>
    refine leadsTo_go ?_
    split
    · exact State.holdEnds_programsUnlocked (hsensed rfl)
    · exact hs
  | retainedMsTick high => exact leadsTo_go (State.retainedTick_programsUnlocked hs high)
  | ignitionOff => exact leadsTo_occurring hs (State.retainedTick_programsUnlocked hs false)
  | ignitionOn => exact leadsTo_occurring hs (State.retainedTick_programsUnlocked hs true)
  | retainedDomainPowerUp => exact leadsTo_go (State.programsUnlocked_of_idle (State.stopped_idle hs))
  | _ => cases hc

/-! ### The operating part -/

theorem State.running_of_starts (h : t.starts = s.starts) : t.running = s.running :=
  (congrArg (fun x => x.1 == StartState.running) h :)

/-- R184, R190: RUNNING ends by the supervisor's senses alone. -/
theorem exec_running {c : Instr} (hc : c.isSupervision = false) (hs : s.running = true) :
    LeadsTo (fun t => t.running = true) (exec c s) := by
  by_cases hquiet : c.movesSenses = false
  · exact fun t ht => (State.running_of_starts (State.starts_of_senses (exec_senses c s hquiet t ht))).trans hs
  have hmoves : (c.movesSenses && !c.isSupervision) = true := by
    rw [Bool.eq_true_of_not_eq_false hquiet, hc]; rfl
  have hwhile {t : State} (ht : t.starts = s.starts) : (s.whileOperating t).running = true :=
    State.whileOperating_keeps (P := fun u => u.running = true) hs ((State.running_of_starts ht).trans hs)
  have hestimate : s.estimateStep.running = true := hwhile s.publishEstimate_starts
  cases c with
  | cycleTimerExpiry => exact leadsTo_go (hwhile s.cycleTimerExpires_starts)
  | silenceCountExpiry p => exact leadsTo_occurring hs (hwhile s.cycleTimerExpires_starts)
  | transactionCompletion block =>
    refine leadsTo_operating hs ?_
    unfold State.transactionCompletes
    split
    · rw [State.sampleCompleted_eq]
      simp only [State.running]
      split
      · rfl
      · exact hs
    · exact hs
  | toothCapture w edge => exact leadsTo_go (hwhile (s.captureTooth_starts w edge))
  | wheelRevalidated w edge => exact leadsTo_occurring hs (hwhile (s.captureTooth_starts w edge))
  | silenceExpiry w => exact leadsTo_go (hwhile rfl)
  | estimatePublication => exact leadsTo_go hestimate
  | coastCountExpiry => exact leadsTo_occurring hs hestimate
  | settlingGoodCountReached => exact leadsTo_occurring hs hestimate
  | delayCountExpiry m => exact leadsTo_occurring hs hestimate
  | softHoldExpiry m => exact leadsTo_occurring hs hestimate
  | blankingExpiry m => exact leadsTo_occurring hs hestimate
  | hardAutoEnd m => exact leadsTo_occurring hs hestimate
  | reevaluationCompletion => exact leadsTo_go (hwhile s.completeReevaluation_starts)
  | grantCountdownExpiry k => exact leadsTo_occurring hs (hwhile s.completeReevaluation_starts)
  | retainedRewriteCompletion => exact leadsTo_go (hwhile s.rewriteCompletes_starts)
  | loadCompletion =>
    refine leadsTo_go ?_
    unfold State.loadCompletes
    split
    next hloading => simp [State.running, hloading] at hs
    next => exact hs
  | sensorWaitExpiry =>
    refine leadsTo_go ?_
    split
    · rfl
    · exact hs
  | _ => cases hmoves

theorem State.arrayStep_programsUnlocked {c : Instr} (h : s.ArrayStep c t) (hrunning : s.running = true → t.running = true)
    (hs : s.programsUnlocked = true) : t.programsUnlocked = true := by
  cases h with
  | stands harray => exact State.programsUnlocked_of_eq harray hrunning hs
  | starts hrun hunlocked _ _ hlock hoperation =>
    refine State.programsUnlocked_iff.mpr fun p hp => ?_
    obtain rfl := Option.some.inj (hoperation.symm.trans hp)
    exact ⟨hrunning hrun, fun h => hlock.trans (hunlocked h)⟩
  | completes _ ho _ _ hnext =>
    have hrun := (State.programsUnlocked_iff.mp hs _ ho).1
    refine State.programsUnlocked_iff.mpr fun p hp => ⟨hrunning hrun, fun h => ?_⟩
    rw [hnext p hp] at h
    cases h
  | loads hloading _ hoperation =>
    refine State.programsUnlocked_of_idle (hoperation.trans ?_)
    refine Option.eq_none_iff_forall_ne_some.mpr fun o ho => ?_
    have hrun := (State.programsUnlocked_iff.mp hs o ho).1
    simp [State.running, hloading] at hrun

theorem State.ticked_programsUnlocked (hs : s.programsUnlocked = true) : s.ticked.programsUnlocked = true := by
  rw [State.programsUnlocked_iff] at hs ⊢
  intro p hp
  obtain ⟨o, ho, rfl⟩ := Option.map_eq_some_iff.mp (hp : s.cst.operation.map _ = some p)
  exact hs o ho

/-! ### The parameter sectors of a LOCKED store (R165, R175, R177) -/

/-- A LOCKED store that wipes nothing has at most the lock word's program in flight. -/
theorem State.lock_of_locked (hs : s.programsUnlocked = true) (hlocked : s.cst.lock = .locked)
    (hwipe : ∀ erased clean n, s.cst.operation ≠ some ⟨.wipe erased clean, n⟩) {o : OperationInFlight}
    (ho : s.cst.operation = some o) : o.operation = .lock := by
  have hneeds := (State.programsUnlocked_iff.mp hs o ho).2
  rw [hlocked] at hneeds
  obtain ⟨operation, n⟩ := o
  cases operation with
  | erase k => cases hneeds rfl
  | program k offset bytes => cases hneeds rfl
  | lock => rfl
  | wipe erased clean => exact absurd ho (hwipe erased clean n)

/-- The flash below S3 reads as `m` does, canonical, with no operation in flight but the lock word's program. -/
structure State.ParametersStand (m : Memory) (s : State) : Prop where
  wf : s.cst.flash.wf = true
  lock : ∀ o, s.cst.operation = some o → o.operation = .lock
  read : ∀ a, a < Sector.base .s3 → s.cst.flash.read a = m.read a

theorem parametersStand_underSupervision (m : Memory) : KeptUnderSupervision (State.ParametersStand m) where
  sense := fun _ _ _ _ _ h => ⟨h.wf, h.lock, h.read⟩
  stop := fun s h => by
    refine ⟨flashCanonical_underSupervision.stop s h.wf, fun _ ho => (nomatch s.stopBlocks_idle.symm.trans ho),
      fun a ha => ?_⟩
    change (s.cst.stopped s.freeCount).flash.read a = m.read a
    cases ho : s.cst.operation with
    | none => rw [Cst.stopped_none ho]; exact h.read a ha
    | some o =>
      rw [Cst.stopped_some ho, h.lock o ho]
      exact (Memory.read_spoil_outside _ h.wf (.inl ha)).trans (h.read a ha)
  release := fun s h =>
    ⟨by rw [s.release_flash]; exact h.wf, fun _ ho => (nomatch s.release_idle.symm.trans ho),
      by rw [s.release_flash]; exact h.read⟩
  lose := fun _ _ _ _ _ h => ⟨h.wf, h.lock, h.read⟩

theorem State.arrayStep_parametersStand {c : Instr} (h : s.ArrayStep c t) (hwf : s.cst.flash.wf = true)
    (hlock : ∀ o, s.cst.operation = some o → o.operation = .lock) {a : Nat} (ha : a < Sector.base .s3) :
    t.cst.flash.read a = s.cst.flash.read a := by
  cases h with
  | stands harray => rw [(State.array_eq_iff.mp harray).1]
  | starts _ _ hflash => rw [hflash]
  | completes _ ho hflash =>
    rw [hlock _ ho] at hflash
    generalize t.cst.flash = m at hflash ⊢
    cases hflash with
    | locked left => exact Memory.read_writeSector_outside hwf (.inl ha)
  | loads _ hflash => rw [hflash]

end

/-- Settles O16: the law by `exec_supervision_programsUnlocked` and `State.arrayStep_programsUnlocked`; under a LOCKED store
what completes or is cut short is the lock word's program, which acts on S3. -/
theorem lockProtectsParameters : Obligations.LockProtectsParameters := by
  refine ⟨fun s t hstep hs => ?_, fun c s t a hexec hs hwf hlocked hwipe ha => ?_⟩
  · unfold step at hstep
    split at hstep
    next c rest _ =>
      have hs : (s.setPending rest).programsUnlocked = true := hs
      by_cases hc : c.isSupervision = true
      · exact exec_supervision_programsUnlocked hc hs t hstep
      · have hc := Bool.eq_false_of_not_eq_true hc
        exact State.arrayStep_programsUnlocked (exec_arrayStep hc t hstep) (exec_running hc · t hstep) hs
    next =>
      obtain rfl : s.tick = t := by simpa using hstep
      exact State.whileOperating_keeps (P := fun u => u.programsUnlocked = true) hs (State.ticked_programsUnlocked hs)
  · have hlock (o : OperationInFlight) (ho : s.cst.operation = some o) := State.lock_of_locked hs hlocked hwipe ho
    by_cases hc : c.isSupervision = true
    · exact ((parametersStand_underSupervision s.cst.flash).exec ⟨hwf, hlock, fun _ _ => rfl⟩ hc t hexec).read a ha
    · exact State.arrayStep_parametersStand (exec_arrayStep (Bool.eq_false_of_not_eq_true hc) t hexec) hwf hlock ha

end Sys2Proof.Machine
end

section
/-! PROOF. O52, O53: what each completion leaves of the flash, byte by byte, and what it reads back. -/
namespace Sys2Proof.Machine

/-! ### What is read back (R172, R173, R175, R176) -/

section
variable {m : Memory} {k : Sector} {left : ArrayLeft}

theorem Memory.allErased_readSector_iff (m : Memory) (k : Sector) (offset n : Nat) :
    allErased (m.readSector k offset n) = true ↔ ∀ i, i < n → m.read (k.base + offset + i) = 0xFF := by
  simp [allErased, Memory.readSector, Memory.readAll, erasedByte]

theorem Memory.sectorErased_iff (m : Memory) (k : Sector) :
    m.sectorErased k = true ↔ ∀ i, i < 256 → m.read (k.base + i) = 0xFF := m.allErased_readSector_iff k 0 256

/-- R172: an array that obeys an erase leaves the sector erased. -/
theorem Memory.sectorErased_afterErase (m : Memory) (k : Sector) : (m.afterErase k none).sectorErased k = true := by
  rw [Memory.sectorErased_iff]
  intro i hi
  rw [Memory.afterErase, Memory.read_eraseSector, if_pos ⟨Nat.le_add_right _ _, by omega⟩]
  rfl

/-- R172: whatever the array left, an erase moves no byte of another sector. -/
theorem Memory.read_afterErase_outside (hm : m.wf = true) {a : Nat} (ha : a < k.base ∨ k.base + 256 ≤ a) :
    (m.afterErase k left).read a = m.read a := by
  have herased : (m.eraseSector k).read a = m.read a := by
    rw [Memory.read_eraseSector, if_neg (by omega)]
  cases left with
  | none => exact herased
  | some bytes =>
    rw [Memory.afterErase, Memory.read_writeSector_outside (Memory.eraseSector_wf k hm) (by omega), herased]

section
variable {offset : Nat} {bytes : List Byte}

/-- R173: a program moves no byte outside its target, whatever the array left. -/
theorem Memory.read_afterProgram_outside (hm : m.wf = true) {a : Nat}
    (ha : a < k.base + offset ∨ k.base + offset + bytes.length ≤ a) :
    (m.afterProgram k offset bytes left).read a = m.read a := by
  rw [Memory.afterProgram, Memory.read_programSector _ _ _ _ hm, length_sentToArray, if_neg (by omega)]

/-- R173, R175: a target byte of a program that the array obeys. -/
theorem Memory.read_afterProgram_target (hm : m.wf = true) (hfits : offset + bytes.length ≤ 256) {i : Nat}
    (hi : i < bytes.length) :
    (m.afterProgram k offset bytes none).read (k.base + offset + i)
      = m.read (k.base + offset + i) &&& bytes.getD i 0xFF := by
  have htarget : k.base + offset ≤ k.base + offset + i ∧ k.base + offset + i < k.base + offset + bytes.length
      ∧ k.base + offset + i < k.base + 256 := by omega
  rw [Memory.afterProgram, sentToArray_none, Memory.read_programSector _ _ _ _ hm, if_pos htarget,
    Nat.add_sub_cancel_left]
  rfl

/-- R173: a program of erased bytes that the array obeys reads back as the bytes programmed. -/
theorem Memory.readSector_afterProgram (hm : m.wf = true) (hfits : offset + bytes.length ≤ 256)
    (herased : ∀ i, i < bytes.length → m.read (k.base + offset + i) = 0xFF) :
    (m.afterProgram k offset bytes none).readSector k offset bytes.length = bytes := by
  refine List.ext_getElem (by simp [Memory.readSector, Memory.readAll]) fun i _ hi => ?_
  have hones : (0xFF : Byte) = BitVec.allOnes 8 := rfl
  simp only [Memory.readSector, Memory.readAll, List.getElem_map, List.getElem_range]
  rw [Memory.read_afterProgram_target hm hfits hi, herased i hi, hones, BitVec.allOnes_and,
    List.getD_eq_getElem _ _ hi]

end

/-- R175: the lock word of an array that obeys reads 0x00. -/
theorem Memory.read_afterLock (hm : m.wf = true) : (m.afterLock none).read (Sector.base .s3) = 0 := by
  have hread := Memory.read_afterProgram_target (k := .s3) (offset := 0) (bytes := [0]) (i := 0) hm (by decide) (by decide)
  exact hread.trans BitVec.and_zero

theorem verified_eq_ite {agrees : Bool} {p : Prop} [Decidable p] (h : agrees = true ↔ p) :
    verified agrees = if p then .ok else .verifyFail := by
  unfold verified
  simp only [h]

end

/-! ### The completions (R170) -/

section
variable {s : State} {n : Nat} {left : ArrayLeft}

theorem exec_calEraseCompletion {k : Sector} (hop : s.operating = true) (ho : s.cst.operation = some ⟨.erase k, n⟩) :
    exec (.calEraseCompletion left) s = .next (s.eraseCompletes k left) := by
  simp only [exec, execCalEraseCompletion, ho, State.whileOperating_of_operating hop, go]

theorem exec_calProgramCompletion {k : Sector} {offset : Nat} {bytes : List Byte} (hop : s.operating = true)
    (ho : s.cst.operation = some ⟨.program k offset bytes, n⟩) :
    exec (.calProgramCompletion left) s = .next (s.programCompletes k offset bytes left) := by
  simp only [exec, execCalProgramCompletion, ho, State.whileOperating_of_operating hop, go]

theorem exec_calLockCompletion (hop : s.operating = true) (ho : s.cst.operation = some ⟨.lock, n⟩) :
    exec (.calLockCompletion left) s = .next (s.lockCompletes left) := by
  simp only [exec, execCalLockCompletion, ho, State.whileOperating_of_operating hop, go]

/-- R175: a lock that reads back. -/
theorem State.lockCompletes_of_clear (h : (s.cst.flash.afterLock left).read (Sector.base .s3) = 0) :
    s.lockCompletes left = (s.setCst { s.cst.endOperation (s.cst.flash.afterLock left) with
      lock := .locked }).answerCalibration .calLock .ok [] := by
  have hclear : (s.cst.flash.afterLock left).lockWordClear = true := beq_iff_eq.mpr h
  rw [State.lockCompletes, Cst.locked, hclear]
  rfl

/-- R175: a lock that does not read back leaves the lock state. -/
theorem State.lockCompletes_of_not_clear (h : (s.cst.flash.afterLock left).read (Sector.base .s3) ≠ 0) :
    s.lockCompletes left
      = (s.setCst (s.cst.endOperation (s.cst.flash.afterLock left))).answerCalibration .calLock .verifyFail [] := by
  have hclear : (s.cst.flash.afterLock left).lockWordClear = false := beq_eq_false_iff_ne.mpr h
  rw [State.lockCompletes, Cst.locked, hclear]
  rfl

end

/-- Settles O52: an erase and a program are answered by what is read back, a lock by whether its word reads 0x00. -/
theorem operationsComplete : Obligations.OperationsComplete := by
  refine ⟨fun s k n left hop hwf ho => ?_, fun s k offset bytes n left hop hwf ho hfits => ?_,
    fun s n left hop hwf ho => ?_⟩
  · refine ⟨_, _, exec_calEraseCompletion hop ho, verified_eq_ite (Memory.sectorErased_iff _ k), ?_,
      fun a ha => Memory.read_afterErase_outside hwf ha, rfl⟩
    rintro rfl
    exact congrArg verified (s.cst.flash.sectorErased_afterErase k)
  · refine ⟨_, _, exec_calProgramCompletion hop ho, verified_eq_ite beq_iff_eq, ?_, ?_,
      fun a => Memory.programSector_clears k offset _ a hwf, fun a ha => Memory.read_afterProgram_outside hwf ha, rfl⟩
    · rintro rfl i hi
      exact Memory.read_afterProgram_target hwf hfits hi
    · rintro rfl herased
      exact congrArg verified (beq_iff_eq.mpr (Memory.readSector_afterProgram hwf hfits herased))
  · refine ⟨_, exec_calLockCompletion hop ho, ?_⟩
    have houtside (a : Nat) (ha : a ≠ Sector.base .s3) :
        (s.cst.flash.afterLock left).read a = s.cst.flash.read a :=
      Memory.read_afterProgram_outside hwf (by simp only [List.length_singleton]; omega)
    have hclears (a : Nat) := Memory.programSector_clears .s3 0 (sentToArray [0] left) a hwf
    by_cases hclear : (s.cst.flash.afterLock left).read (Sector.base .s3) = 0
    · rw [State.lockCompletes_of_clear hclear]
      exact ⟨fun _ => hclear, hclears, fun _ => ⟨rfl, rfl, rfl⟩, fun h => absurd hclear h, houtside, rfl⟩
    · rw [State.lockCompletes_of_not_clear hclear]
      refine ⟨?_, hclears, fun h => absurd h hclear, fun _ => ⟨rfl, rfl, rfl⟩, houtside, rfl⟩
      rintro rfl
      exact Memory.read_afterLock hwf

/-! ### A wipe (R176) -/

section
variable {s : State} {erased n : Nat} {clean : Bool} {k : Sector} {left : ArrayLeft}

theorem State.wipeNext_eq (ho : s.cst.operation = some ⟨.wipe erased clean, n⟩) (hk : sectorOfCode erased = some k) :
    s.wipeNext left = s.setCst (s.cst.wipeOne k erased clean n left) := by
  simp only [State.wipeNext, ho, wipeSector, hk]

theorem State.wipeCompletes_eq (ho : s.cst.operation = some ⟨.wipe 4 clean, n⟩) :
    s.wipeCompletes = (s.setCst s.cst.unlocked).answerCalibration .calWipe (verified clean) [] := by
  simp only [State.wipeCompletes, ho, if_true]

theorem exec_wipeSectorEraseCompletion (hop : s.operating = true) :
    exec (.wipeSectorEraseCompletion left) s = .next (s.wipeNext left) := by
  simp only [exec, execWipeSectorEraseCompletion, State.whileOperating_of_operating hop, go]

/-- A completion after the four erases. -/
theorem exec_calWipeCompletion_of_erased (hop : s.operating = true) (ho : s.cst.operation = some ⟨.wipe 4 clean, n⟩) :
    exec (.calWipeCompletion left) s = .next s.wipeCompletes := by
  have hlast : s.cst.lastWipe = false := by simp [Cst.lastWipe, ho]
  simp [exec, execCalWipeCompletion, State.whileOperating_of_operating hop, hlast, go]

/-- A completion that takes the fourth erase itself (log 26). -/
theorem exec_calWipeCompletion_of_last (hop : s.operating = true) (ho : s.cst.operation = some ⟨.wipe 3 clean, n⟩) :
    exec (.calWipeCompletion left) s = .next (s.wipeNext left).wipeCompletes := by
  have hlast : s.cst.lastWipe = true := by simp [Cst.lastWipe, ho]
  simp [exec, execCalWipeCompletion, State.whileOperating_of_operating hop, hlast, go]

end

/-- Settles O53: each row of a wipe is one sector's erase, the completion its answer; where the completion takes the fourth
erase itself, it is that erase's row and then the completion. -/
theorem wipeErasesAll : Obligations.WipeErasesAll := by
  refine ⟨fun s erased clean n k left hop ho hk => ?_, fun s clean n left hop ho => ?_,
    fun s clean n left t hop ho hexec => ?_⟩
  · refine ⟨_, exec_wipeSectorEraseCompletion hop, ?_⟩
    rw [State.wipeNext_eq ho hk]
    refine ⟨?_, ?_, fun hwf a ha => Memory.read_afterErase_outside hwf ha, rfl⟩
    · rintro rfl
      exact (Memory.sectorErased_iff _ k).mp (s.cst.flash.sectorErased_afterErase k)
    · have hread : (s.cst.flash.afterErase k left).sectorErased k
          = decide (∀ i : Nat, i < 256 → (s.cst.flash.afterErase k left).read (k.base + i) = 0xFF) :=
        Bool.eq_iff_iff.mpr ((Memory.sectorErased_iff _ k).trans decide_eq_true_iff.symm)
      simp only [State.setCst_cst, Cst.wipeOne, hread]
  · rw [exec_calWipeCompletion_of_erased hop ho, State.wipeCompletes_eq ho]
    rfl
  · rw [exec_wipeSectorEraseCompletion hop] at hexec
    cases hexec
    have hnext : s.wipeNext left = s.setCst (s.cst.wipeOne .s3 3 clean n left) := State.wipeNext_eq ho rfl
    rw [exec_calWipeCompletion_of_last hop ho, hnext]
    exact (exec_calWipeCompletion_of_erased (s := s.setCst (s.cst.wipeOne .s3 3 clean n left)) hop rfl).symm

end Sys2Proof.Machine
end

section
/-! PROOF. O51: the four requests that start an operation: each is refused by the first check that it fails, and accepted it
starts its operation alone. -/
namespace Sys2Proof.Machine

section
variable {s : State} {r : Request}

/-! ### The checks (R167, R173, R175) -/

/-- R167: the checks of a calibration request, in their order. -/
theorem State.calibrationRefusal_eq (s : State) (r : Request) :
    s.calibrationRefusal r = if s.running = false then some .notReady
      else if r.calibrationFieldBad = true then some .badField
      else if s.cst.session = .closed then some .noService
      else if lockRefuses r.kind = true ∧ s.cst.lock = .locked then some .locked
      else if supplyRefuses r.kind = true ∧ s.sup.low = true then some .lowSupply
      else if r.kind = .calProgram ∧ ¬s.targetErased r = true then some .notErased
      else none := by
  simp only [State.calibrationRefusal, Bool.not_eq_true', Bool.and_eq_true, beq_iff_eq, Bool.not_eq_true]

/-- R167: S3 is not erased by a CAL_ERASE. -/
theorem Request.calibrationFieldBad_of_erase (hkind : r.kind = .calErase) :
    r.calibrationFieldBad = true ↔ sectorOfCode (r.byte 0) = none ∨ sectorOfCode (r.byte 0) = some .s3 := by
  simp only [Request.calibrationFieldBad, hkind, Bool.or_eq_true, Option.isNone_iff_eq_none, beq_iff_eq]

/-- R167: the fields of a CAL_PROGRAM. -/
theorem Request.calibrationFieldBad_of_program (hkind : r.kind = .calProgram) :
    r.calibrationFieldBad = true ↔ sectorOfCode (r.byte 0) = none ∨ 256 < r.byte 1 + (r.payload.drop 2).length := by
  simp only [Request.calibrationFieldBad, hkind, fitsSector, Bool.or_eq_true, Option.isNone_iff_eq_none,
    Bool.not_eq_true', decide_eq_false_iff_not, Nat.not_le]
  rfl

/-- A CAL_LOCK and a CAL_WIPE carry no field. -/
theorem Request.calibrationFieldBad_of_plain (hkind : r.kind = .calLock ∨ r.kind = .calWipe) :
    r.calibrationFieldBad = false := by
  rcases hkind with hkind | hkind
  · rw [Request.calibrationFieldBad, hkind]
  · rw [Request.calibrationFieldBad, hkind]

theorem Request.sector_of_code {k : Sector} (hk : sectorOfCode (r.byte 0) = some k) : r.sector = k := by
  rw [Request.sector, hk, Option.getD_some]

/-- R173: the target bytes of a CAL_PROGRAM. -/
theorem State.targetErased_iff {k : Sector} (hk : sectorOfCode (r.byte 0) = some k) :
    s.targetErased r = true
      ↔ ∀ i : Nat, i < (r.payload.drop 2).length → s.cst.flash.read (k.base + r.byte 1 + i) = 0xFF := by
  rw [State.targetErased, Request.sector_of_code hk, Memory.allErased_readSector_iff, Request.programBytes]

theorem State.calibrationRefusal_of_erase (hkind : r.kind = .calErase) :
    s.calibrationRefusal r = if s.running = false then some .notReady
      else if sectorOfCode (r.byte 0) = none ∨ sectorOfCode (r.byte 0) = some .s3 then some .badField
      else if s.cst.session = .closed then some .noService
      else if s.cst.lock = .locked then some .locked else none := by
  rw [State.calibrationRefusal_eq]
  simp only [Request.calibrationFieldBad_of_erase hkind, hkind]
  simp [lockRefuses, supplyRefuses]

theorem State.calibrationRefusal_of_program {k : Sector} (hkind : r.kind = .calProgram)
    (hk : sectorOfCode (r.byte 0) = some k) :
    s.calibrationRefusal r = if s.running = false then some .notReady
      else if 256 < r.byte 1 + (r.payload.drop 2).length then some .badField
      else if s.cst.session = .closed then some .noService
      else if s.cst.lock = .locked then some .locked
      else if s.sup.low = true then some .lowSupply
      else if ¬∀ i : Nat, i < (r.payload.drop 2).length → s.cst.flash.read (k.base + r.byte 1 + i) = 0xFF then
        some .notErased
      else none := by
  rw [State.calibrationRefusal_eq]
  simp only [Request.calibrationFieldBad_of_program hkind, State.targetErased_iff hk, hk, hkind, reduceCtorEq, false_or,
    true_and, lockRefuses, supplyRefuses, beq_self_eq_true, Bool.true_or, Bool.or_true]

theorem State.calibrationRefusal_of_lock (hkind : r.kind = .calLock) :
    s.calibrationRefusal r = if s.running = false then some .notReady
      else if s.cst.session = .closed then some .noService
      else if s.sup.low = true then some .lowSupply else none := by
  rw [State.calibrationRefusal_eq, Request.calibrationFieldBad_of_plain (.inl hkind), hkind]
  simp [lockRefuses, supplyRefuses]

theorem State.calibrationRefusal_of_wipe (hkind : r.kind = .calWipe) :
    s.calibrationRefusal r = if s.running = false then some .notReady
      else if s.cst.session = .closed then some .noService else none := by
  rw [State.calibrationRefusal_eq, Request.calibrationFieldBad_of_plain (.inr hkind), hkind]
  simp [lockRefuses, supplyRefuses]

/-! ### The requests served (R170) -/

section
variable (hop : s.operating = true) (hidle : s.cst.operation = none)
include hop hidle

theorem exec_calErase (hr : s.served .c .calErase = some r) :
    exec .calErase s = .next (s.serveCalibration r (s.startOperation (.erase r.sector) 20000)) := by
  simp only [exec, execCalErase, State.calibrationServed_of_idle hidle, hr, State.whileOperating_of_operating hop, go]

theorem exec_calProgram (hr : s.served .c .calProgram = some r) :
    exec .calProgram s
      = .next (s.serveCalibration r (s.startOperation (.program r.sector (r.byte 1) r.programBytes) 1000)) := by
  simp only [exec, execCalProgram, State.calibrationServed_of_idle hidle, hr, State.whileOperating_of_operating hop, go]

theorem exec_calLock (hr : s.served .c .calLock = some r) :
    exec .calLock s = .next (s.serveCalibration r (s.startOperation .lock 1000)) := by
  simp only [exec, execCalLock, State.calibrationServed_of_idle hidle, hr, State.whileOperating_of_operating hop, go]

theorem exec_calWipe (hr : s.served .c .calWipe = some r) :
    exec .calWipe s = .next (s.serveCalibration r (s.startOperation (.wipe 0 true) 80000)) := by
  simp only [exec, execCalWipe, State.calibrationServed_of_idle hidle, hr, State.whileOperating_of_operating hop, go]

end

/-- What a refusal leaves, of whatever row. -/
theorem State.exec_refused {c : Instr} {kind : MessageKind} {code : ReplyCode} {t : State}
    (hexec : exec c s = .next (s.serveCalibration r t)) (hr : s.served .c kind = some r)
    (hrefusal : s.calibrationRefusal r = some code) :
    exec c s = .next ((s.setCst { s.cst with last := some (kind, code) }).answer .c ⟨kind, code, []⟩) := by
  obtain ⟨-, rfl⟩ := State.served_iff.mp hr
  rw [hexec, State.serveCalibration_refused hrefusal]
  rfl

end

/-- Settles O51: a request's checks by its kind; none fails, and its operation starts, or the first that fails answers. -/
theorem operationsStart : Obligations.OperationsStart := by
  refine ⟨fun s r hrun hidle hopen => ?_, fun s r code hop hidle => ⟨fun hr hcode c hc => ?_, fun hr hcode c hc => ?_,
    fun hr hcode c hc => ?_, fun hr hcode c hc => ?_⟩⟩
  · have hop := State.operating_of_running hrun
    refine ⟨fun k hr hk hs3 hunlocked => ?_, fun k hr hk hunlocked hlow hfits herased => ?_, fun hr hlow => ?_,
      fun hr => ?_⟩
    · obtain ⟨-, hkind⟩ := State.served_iff.mp hr
      have haccepted : s.calibrationRefusal r = none := by
        simp [State.calibrationRefusal_of_erase hkind, hrun, hk, hs3, hopen, hunlocked]
      rw [exec_calErase hop hidle hr, State.serveCalibration_accepted haccepted, Request.sector_of_code hk]
      rfl
    · obtain ⟨-, hkind⟩ := State.served_iff.mp hr
      have haccepted : s.calibrationRefusal r = none := by
        rw [State.calibrationRefusal_of_program hkind hk, if_neg (Nat.not_lt.mpr hfits), if_neg (not_not.mpr herased)]
        simp [hrun, hopen, hunlocked, hlow]
      rw [exec_calProgram hop hidle hr, State.serveCalibration_accepted haccepted, Request.sector_of_code hk]
      rfl
    · obtain ⟨-, hkind⟩ := State.served_iff.mp hr
      have haccepted : s.calibrationRefusal r = none := by
        simp [State.calibrationRefusal_of_lock hkind, hrun, hopen, hlow]
      rw [exec_calLock hop hidle hr, State.serveCalibration_accepted haccepted]
      rfl
    · obtain ⟨-, hkind⟩ := State.served_iff.mp hr
      have haccepted : s.calibrationRefusal r = none := by
        simp [State.calibrationRefusal_of_wipe hkind, hrun, hopen]
      rw [exec_calWipe hop hidle hr, State.serveCalibration_accepted haccepted]
      rfl
  · obtain ⟨-, hkind⟩ := State.served_iff.mp hr
    refine State.exec_refused (exec_calProgram hop hidle hr) hr ((Eq.trans ?_ hcode.symm).trans hc)
    cases hk : sectorOfCode (r.byte 0) with
    | none =>
      rw [State.calibrationRefusal_eq, if_pos ((Request.calibrationFieldBad_of_program hkind).mpr (.inl hk))]
    | some k => exact State.calibrationRefusal_of_program hkind hk
  · obtain ⟨-, hkind⟩ := State.served_iff.mp hr
    exact State.exec_refused (exec_calErase hop hidle hr) hr
      (((State.calibrationRefusal_of_erase hkind).trans hcode.symm).trans hc)
  · obtain ⟨-, hkind⟩ := State.served_iff.mp hr
    exact State.exec_refused (exec_calLock hop hidle hr) hr
      (((State.calibrationRefusal_of_lock hkind).trans hcode.symm).trans hc)
  · obtain ⟨-, hkind⟩ := State.served_iff.mp hr
    exact State.exec_refused (exec_calWipe hop hidle hr) hr
      (((State.calibrationRefusal_of_wipe hkind).trans hcode.symm).trans hc)

end Sys2Proof.Machine
end

section
/-! PROOF. O54: the service input after one sample, by whether it agrees with the level and whether it is the fourth that does
not. -/
namespace Sys2Proof.Machine

section
variable {s : State} {level : Bool}

theorem Cst.sampleService_agrees {x : Cst} (h : x.serviceAsserted = level) :
    x.sampleService level = { x with serviceCount := 0 } := if_pos h.symm

theorem Cst.sampleService_counts {x : Cst} (h : x.serviceAsserted ≠ level) (hcount : x.serviceCount < 3) :
    x.sampleService level = { x with serviceCount := x.serviceCount + 1 } := by
  rw [Cst.sampleService, if_neg h.symm, if_neg (by omega)]

theorem Cst.sampleService_takes {x : Cst} (h : x.serviceAsserted ≠ level) (hcount : 3 ≤ x.serviceCount) :
    x.sampleService level = { x with serviceAsserted := level, serviceCount := 0 } := by
  rw [Cst.sampleService, if_neg h.symm, if_pos (by omega)]

/-- R166: a sample at which the level does not fall is the filter's alone. -/
theorem State.sampleService_of_no_fall
    (h : (s.cst.serviceAsserted && !(s.cst.sampleService level).serviceAsserted) = false) :
    s.sampleService level = s.setCst (s.cst.sampleService level) := by
  simp only [State.sampleService, State.setCst_cst, h, Bool.false_eq_true, if_false]

/-- R169: a sample at which the level falls closes the session. -/
theorem State.sampleService_of_fall
    (h : (s.cst.serviceAsserted && !(s.cst.sampleService level).serviceAsserted) = true) :
    s.sampleService level = (s.setCst (s.cst.sampleService level)).closeSession := by
  simp only [State.sampleService, State.setCst_cst, h, if_true]

theorem exec_svcSample (hop : s.operating = true) : exec (.svcSample level) s = .next (s.sampleService level) := by
  simp only [exec, execSvcSample, State.whileOperating_of_operating hop, go]

/-- The row of an assertion is the sample it falls at (log 2). -/
theorem exec_svcAsserted (hop : s.operating = true)
    (hoccurs : (!s.cst.serviceAsserted && (s.sampleService true).cst.serviceAsserted) = true) :
    exec .svcAsserted s = .next (s.sampleService true) := by
  simp only [exec, execSvcAsserted, State.whileOperating_of_operating hop, occurring, hoccurs, if_true, go]

/-- The row of a release is the sample it falls at (log 2). -/
theorem exec_svcReleased (hop : s.operating = true)
    (hoccurs : (s.cst.serviceAsserted && !(s.sampleService false).cst.serviceAsserted) = true) :
    exec .svcReleased s = .next (s.sampleService false) := by
  simp only [exec, execSvcReleased, State.whileOperating_of_operating hop, occurring, hoccurs, if_true, go]

end

/-- Settles O54: a sample agrees, counts or is the fourth; only a fourth low one takes the level down. -/
theorem serviceInputFiltered : Obligations.ServiceInputFiltered := by
  intro s level hop
  refine ⟨fun hagrees => ?_, fun hdiffers hcount => ?_, fun hreleased hcount => ?_, fun hasserted hcount => ?_⟩
  · have hfilter := Cst.sampleService_agrees hagrees
    rw [exec_svcSample hop, State.sampleService_of_no_fall (by simp [hfilter]), hfilter]
  · have hfilter := Cst.sampleService_counts hdiffers hcount
    rw [exec_svcSample hop, State.sampleService_of_no_fall (by simp [hfilter]), hfilter]
  · have hfilter := Cst.sampleService_takes (x := s.cst) (level := true) (by simp [hreleased]) hcount
    have hsample := State.sampleService_of_no_fall (s := s) (level := true) (by simp [hreleased])
    rw [hfilter] at hsample
    rw [exec_svcSample hop, exec_svcAsserted hop (by simp [hreleased, hsample]), hsample]
    exact ⟨rfl, rfl⟩
  · have hfilter := Cst.sampleService_takes (x := s.cst) (level := false) (by simp [hasserted]) hcount
    have hsample := State.sampleService_of_fall (s := s) (level := false) (by simp [hasserted, hfilter])
    rw [hfilter] at hsample
    have hoccurs : (s.cst.serviceAsserted && !(s.sampleService false).cst.serviceAsserted) = true := by
      rw [hsample, hasserted]; rfl
    rw [exec_svcSample hop, exec_svcReleased hop hoccurs, hsample]
    exact ⟨rfl, rfl⟩

end Sys2Proof.Machine
end

section
/-! SUPPORT. Which operations leave the queue of commands alone: one frame lemma per operation that a command of the operating
part is made of. -/
namespace Sys2Proof.Machine

theorem State.pending_of_besideClamps {s t : State} (h : t.besideClamps = s.besideClamps) : t.pending = s.pending :=
  (congrArg State.pending h :)

section
variable (s : State)

/-! ### The sample path and the estimate -/

@[simp] theorem State.silenceRises_pending (p : PortName) : (s.silenceRises p).pending = s.pending := by
  rw [State.silenceRises_frame]

@[simp] theorem State.cycleTimerExpires_pending : s.cycleTimerExpires.pending = s.pending := by
  cases htimer : s.leu.cycleTimer with
  | none => simp only [State.cycleTimerExpires, htimer]
  | some n =>
    rw [State.cycleTimerExpires_of_running htimer, State.silencesRise]
    simp only [State.silenceRises_pending]
    rfl

@[simp] theorem State.transactionCompletes_pending (block : Vector Byte 16) :
    (s.transactionCompletes block).pending = s.pending := by
  unfold State.transactionCompletes
  split
  · rw [State.sampleCompleted_eq]; rfl
  · rfl

@[simp] theorem State.captureTooth_pending (w : Wheel) (edge : Nat) : (s.captureTooth w edge).pending = s.pending :=
  (State.pending_of_besideClamps (State.handOnCapture_besideClamps _ _ _ _ _)).trans rfl

@[simp] theorem State.publishEstimate_pending : s.publishEstimate.pending = s.pending := by
  by_cases hidle : s.leu.work = .idle
  · simp only [State.publishEstimate, hidle, if_true]
  · rw [State.publishEstimate_eq hidle, State.pending_of_besideClamps (State.monitorsPublication_besideClamps _ _)]
    rfl

@[simp] theorem State.lockWindowExpires_pending (m : MonitorName) : (s.lockWindowExpires m).pending = s.pending := by
  unfold State.lockWindowExpires
  split
  · rfl
  · dsimp only
    split
    · exact State.triggerHard_pending _ _ _ _
    · rfl

/-! ### Budgets and grants -/

@[simp] theorem State.publishBudget_pending : s.publishBudget.pending = s.pending := by
  unfold State.publishBudget
  split
  · split
    · rfl
    · rw [State.computeBudget_eq]
  · rfl

@[simp] theorem State.profileSetServed_pending (r : Request) : (s.profileSetServed r).pending = s.pending := by
  unfold State.profileSetServed State.profileSetAt State.serveProfileSet
  split <;> rfl

@[simp] theorem State.takeService_pending : s.takeService.pending = s.pending := by
  unfold State.takeService
  split
  · split <;> rfl
  · rfl

@[simp] theorem State.queueStatus_pending : s.queueStatus.pending = s.pending := rfl
@[simp] theorem State.freeEngine_pending : s.freeEngine.pending = s.pending := rfl
@[simp] theorem State.startRewrite_pending : s.startRewrite.pending = s.pending := rfl

@[simp] theorem State.completeReevaluation_pending : s.completeReevaluation.pending = s.pending := by
  unfold State.completeReevaluation
  split
  · simp
  · rfl

@[simp] theorem State.rewriteCompletes_pending : s.rewriteCompletes.pending = s.pending := by
  unfold State.rewriteCompletes
  split <;> rfl

@[simp] theorem State.serveGrantRequest_pending (h : Holder) (r : Request) :
    (s.serveGrantRequest h r).pending = s.pending := by
  unfold State.serveGrantRequest
  split
  next k _ _ =>
    exact State.pending_of_besideClamps (s := s) (t := s.grantWritten k r.force) (by simp [State.grantWritten])
  all_goals rfl

@[simp] theorem State.serveGrantRelease_pending (h : Holder) (r : Request) :
    (s.serveGrantRelease h r).pending = s.pending := by
  unfold State.serveGrantRelease
  split
  · split
    · exact s.writeGrant_pending _ none
    · rfl
  all_goals rfl

@[simp] theorem State.useReported_pending (h : Holder) (r : Request) : (s.useReported h r).pending = s.pending := by
  unfold State.useReported State.takeReport
  split
  · split
    · rfl
    · exact s.writeGrant_pending _ _
  all_goals rfl

/-! ### The monitors' requests and the ports -/

@[simp] theorem State.serveClampClear_pending (p : PortName) (r : Request) :
    (s.serveClampClear p r).pending = s.pending := by
  have hcleared : (s.clampCleared r).pending = s.pending := by
    unfold State.clampCleared
    split
    · rfl
    · exact s.endClamp_pending _ _
  unfold State.serveClampClear
  split
  · exact hcleared
  · rfl

@[simp] theorem State.serveShiftNotice_pending : s.serveShiftNotice.pending = s.pending := by
  unfold State.serveShiftNotice State.shiftNoticed
  split
  · split <;> rfl
  · rfl

@[simp] theorem State.serveCheckTest_pending (p : PortName) (r : Request) :
    (s.serveCheckTest p r).pending = s.pending := by
  unfold State.serveCheckTest
  split <;> rfl

@[simp] theorem State.arrive_pending (p : PortName) (r : Request) : (s.arrive p r).pending = s.pending := by
  have hpresent : (s.linkPresence p).pending = s.pending := by
    unfold State.linkPresence
    split
    · rfl
    · exact State.changeGrants_pending _ _ _
  unfold State.arrive
  dsimp only
  split
  · exact hpresent
  · exact hpresent

@[simp] theorem State.endFrame_pending (p : PortName) : (s.endFrame p).pending = s.pending := by
  unfold State.endFrame
  dsimp only
  split <;> simp

@[simp] theorem State.frameEnds_pending (p : PortName) : (s.frameEnds p).pending = s.pending := by
  unfold State.frameEnds
  split <;> simp

@[simp] theorem State.byteArrives_pending (p : PortName) (byte : Byte) (fault : Bool) :
    (s.byteArrives p byte fault).pending = s.pending := by
  unfold State.byteArrives
  split
  · split
    · rfl
    · exact s.endFrame_pending p
  all_goals rfl

@[simp] theorem State.linkHeld_pending (p : PortName) : (s.linkHeld p).pending = s.pending := by
  unfold State.linkHeld
  split <;> simp

/-! ### The store -/

@[simp] theorem State.sampleService_pending (high : Bool) : (s.sampleService high).pending = s.pending := by
  unfold State.sampleService
  dsimp only
  split <;> rfl

@[simp] theorem State.answerCalibration_pending (kind : MessageKind) (code : ReplyCode) (rest : List Byte) :
    (s.answerCalibration kind code rest).pending = s.pending := rfl

@[simp] theorem State.serveOpen_pending : s.serveOpen.pending = s.pending := by
  unfold State.serveOpen
  split <;> rfl

theorem State.serveCalibration_pending (r : Request) {t : State} (ht : t.pending = s.pending) :
    (s.serveCalibration r t).pending = s.pending := by
  unfold State.serveCalibration
  split
  · rfl
  · exact ht

@[simp] theorem State.eraseCompletes_pending (k : Sector) (left : ArrayLeft) :
    (s.eraseCompletes k left).pending = s.pending := by
  simp [State.eraseCompletes]

@[simp] theorem State.programCompletes_pending (k : Sector) (offset : Nat) (bytes : List Byte) (left : ArrayLeft) :
    (s.programCompletes k offset bytes left).pending = s.pending := by
  simp [State.programCompletes]

@[simp] theorem State.lockCompletes_pending (left : ArrayLeft) : (s.lockCompletes left).pending = s.pending := by
  simp [State.lockCompletes]

@[simp] theorem State.wipeNext_pending (left : ArrayLeft) : (s.wipeNext left).pending = s.pending := by
  unfold State.wipeNext
  split
  · split <;> rfl
  all_goals rfl

@[simp] theorem State.wipeCompletes_pending : s.wipeCompletes.pending = s.pending := by
  unfold State.wipeCompletes
  split
  · split <;> rfl
  all_goals rfl

end
end Sys2Proof.Machine
end

section
/-! PROOF. O2, O3: a command of the operating part completes, leaves the queue of commands alone, and leaves a held part as it
was; a command of the supervisor's senses completes and leaves the queue alone. -/
namespace Sys2Proof.Machine

/-! ### What a command of the operating part can do (R184) -/

theorem State.whileOperating_of_held {s : State} (h : s.operating = false) (t : State) : s.whileOperating t = s := by
  simp only [State.whileOperating, h, Bool.false_eq_true, if_false]

/-- An outcome that goes on with the queue of commands as it was, and at a held part changes nothing. -/
def State.OperatingStep (s : State) (o : Host.Outcome State Fault Refusal) : Prop :=
  ∃ t, o = .next t ∧ t.pending = s.pending ∧ (s.operating = false → t = s)

namespace State.OperatingStep

variable {s t : State}

/-- The command finds no ground in the state (log 3). -/
theorem rest : s.OperatingStep (go s) := ⟨s, rfl, rfl, fun _ => rfl⟩

theorem operating (ht : t.pending = s.pending) : s.OperatingStep (go (s.whileOperating t)) :=
  ⟨_, rfl, State.whileOperating_keeps (P := fun u => u.pending = s.pending) rfl ht, (State.whileOperating_of_held · t)⟩

/-- The row of an occurrence within a larger event (log 2). -/
theorem occurring (occurs : Bool) (ht : t.pending = s.pending) :
    s.OperatingStep (occurring occurs (s.whileOperating t) s) := by
  cases occurs with
  | false => exact rest
  | true => exact operating ht

/-- A command that acts in one start state of the operating part. -/
theorem inStart {x : StartState} (hx : x ≠ .off ∧ x ≠ .reset) (ht : t.pending = s.pending) :
    s.OperatingStep (go (if s.sup.start = x then t else s)) := by
  split
  next hstart =>
    have hop := State.operating_of_start hstart hx
    exact ⟨t, rfl, ht, fun hheld => by cases hop.symm.trans hheld⟩
  next => exact rest

/-- A command that serves a request runs where the request is found. -/
theorem found (request : Option Request) {t : Request → State} (ht : ∀ r, (t r).pending = s.pending) :
    s.OperatingStep (match request with
      | none => go s
      | some r => go (s.whileOperating (t r))) := by
  cases request with
  | none => exact rest
  | some r => exact operating (ht r)

/-- A command that serves a request of the grant engine runs where the request is in service. -/
theorem inService (request : Option (Holder × Request)) {t : Holder → Request → State}
    (ht : ∀ h r, (t h r).pending = s.pending) :
    s.OperatingStep (match request with
      | none => go s
      | some (h, r) => go (s.whileOperating (t h r))) := by
  cases request with
  | none => exact rest
  | some q => exact operating (ht q.1 q.2)

end State.OperatingStep

/-- Every command but those of the supervisor's senses. -/
theorem exec_operatingStep (c : Instr) (s : State) (hc : c.isSupervision = false) : s.OperatingStep (exec c s) := by
  have hserved (r : Request) {t : State} (ht : t.pending = s.pending) := s.serveCalibration_pending r ht
  cases c with
  | cycleTimerExpiry => exact .operating s.cycleTimerExpires_pending
  | silenceCountExpiry _ => exact .occurring _ s.cycleTimerExpires_pending
  | transactionCompletion block => exact .operating (s.transactionCompletes_pending block)
  | estimatePublication => exact .operating s.publishEstimate_pending
  | coastCountExpiry | settlingGoodCountReached | delayCountExpiry _ | softHoldExpiry _ | blankingExpiry _
  | hardAutoEnd _ => exact .occurring _ s.publishEstimate_pending
  | budgetPublication => exact .operating s.publishBudget_pending
  | greServiceTake => exact .operating s.takeService_pending
  | reevaluationCompletion => exact .operating s.completeReevaluation_pending
  | grantCountdownExpiry _ => exact .occurring _ s.completeReevaluation_pending
  | retainedRewriteCompletion => exact .operating s.rewriteCompletes_pending
  | linePeriodStart _ | linePulseEnd _ | silenceExpiry _ | receiveReadyExpiry _ | transmitGapExpiry _ | frameSent _ =>
    exact .operating rfl
  | toothCapture w edge => exact .operating (s.captureTooth_pending w edge)
  | wheelRevalidated w edge => exact .occurring _ (s.captureTooth_pending w edge)
  | lockWindowExpiry m => exact .operating (s.lockWindowExpires_pending m)
  | frameReceived p => exact .operating (s.frameEnds_pending p)
  | byteReceived p byte fault => exact .operating (s.byteArrives_pending p byte fault)
  | linkHold p => exact .operating (s.linkHeld_pending p)
  | grantRequest => exact .inService _ s.serveGrantRequest_pending
  | grantRelease => exact .inService _ s.serveGrantRelease_pending
  | useReport => exact .inService _ s.useReported_pending
  | clampClear p => exact .found _ (s.serveClampClear_pending p)
  | shiftNotice => exact .found _ fun _ => s.serveShiftNotice_pending
  | profileSet => exact .found _ s.profileSetServed_pending
  | checkTest p => exact .found _ (s.serveCheckTest_pending p)
  | calOpen => exact .found _ fun _ => s.serveOpen_pending
  | calClose | calRead | calErase | calProgram | calLock | calWipe => exact .found _ fun r => hserved r rfl
  | calEraseCompletion _ | calProgramCompletion _ | calLockCompletion _ =>
    simp only [exec, execCalEraseCompletion, execCalProgramCompletion, execCalLockCompletion]
    split
    · exact .operating (by simp)
    all_goals exact .rest
  | wipeSectorEraseCompletion left => exact .operating (s.wipeNext_pending left)
  | calWipeCompletion left =>
    refine .operating ?_
    split <;> simp
  | loadCompletion => exact .inStart (x := .loading) (by decide) rfl
  | sensorWaitExpiry => exact .inStart (x := .sensorWait) (by decide) rfl
  | svcSample high => exact .operating (s.sampleService_pending high)
  | svcAsserted => exact .occurring _ (s.sampleService_pending true)
  | svcReleased => exact .occurring _ (s.sampleService_pending false)
  | _ => cases hc

/-! ### What a command of the supervisor's senses can do (R180 to R186) -/

theorem State.release_pending (s : State) : s.release.pending = s.pending := by
  unfold State.release
  split <;> rfl

theorem pendingKept_underSupervision (q : List Instr) : KeptUnderSupervision fun t => t.pending = q where
  sense _ _ _ _ _ h := h
  stop _ h := h
  release s h := s.release_pending.trans h
  lose _ _ _ _ _ h := h

theorem exec_supervision_completes (c : Instr) (s : State) (hc : c.isSupervision = true) : ∃ t, exec c s = .next t := by
  cases c with
  | supplySample _ | supplyLossTrip _ | supplyLossClear _ | lowSupplySet _ | lowSupplyClear _ | rstNAssert | rstNRelease
  | retainedMsTick _ | ignitionOff | ignitionOn | retainedDomainPowerUp | mainDomainPowerUp => exact ⟨_, rfl⟩
  | _ => cases hc

/-- Settles O2: the operating part's commands by what each can do, the supervisor's by what they are made of. -/
theorem everyCommandCompletes : Obligations.EveryCommandCompletes := by
  intro c s
  cases hc : c.isSupervision with
  | false =>
    obtain ⟨t, hnext, hpending, -⟩ := exec_operatingStep c s hc
    exact ⟨t, hnext, hpending⟩
  | true =>
    obtain ⟨t, hnext⟩ := exec_supervision_completes c s hc
    exact ⟨t, hnext, (pendingKept_underSupervision s.pending).exec rfl hc t hnext⟩

/-- Settles O3: at a held part a command of the operating part goes on from the state as it was. -/
theorem heldPartIgnores : Obligations.HeldPartIgnores := by
  intro c s hheld hc
  obtain ⟨t, hnext, -, hsame⟩ := exec_operatingStep c s hc
  rw [hnext, hsame hheld]

end Sys2Proof.Machine
end

section
/-! PROOF. O57: a tick of the retained domain counts the outage of a held part, then samples the ignition: the sample agrees
with the level, counts, or is the fourth, at which the part enters or leaves OFF; and the retained domain's power-up. -/
namespace Sys2Proof.Machine

section
variable {s : State} {high : Bool}

/-! ### One sample of the ignition (R183) -/

theorem Sup.sampleIgnition_agrees {x : Sup} (h : x.ignHigh = high) : x.sampleIgnition high = { x with ignCount := 0 } := by
  rw [Sup.sampleIgnition, if_pos h.symm]

theorem Sup.sampleIgnition_counts {x : Sup} (h : x.ignHigh ≠ high) (hcount : x.ignCount < 3) :
    x.sampleIgnition high = { x with ignCount := x.ignCount + 1 } := by
  rw [Sup.sampleIgnition, if_neg h.symm, if_neg (by omega)]

theorem Sup.sampleIgnition_takes {x : Sup} (h : x.ignHigh ≠ high) (hcount : 3 ≤ x.ignCount) :
    x.sampleIgnition high = { x with ignHigh := high, ignCount := 0 } := by
  rw [Sup.sampleIgnition, if_neg h.symm, if_pos (by omega)]

/-! ### The tick (R183, R185) -/

/-- The supervisor after the outage count of a tick, by whether the part operates (R185; log 20). -/
def State.outageCounted (s : State) : Sup :=
  { s.sup with outage := if s.operating then s.sup.outage else min 255 (s.sup.outage + 1) }

theorem State.outageTicked_eq (s : State) : s.outageTicked = s.setSup s.outageCounted := by
  unfold State.outageTicked State.outageCounted
  cases s.operating <;> rfl

/-- A tick whose sample leaves the level is the counts' alone. -/
theorem State.retainedTick_same (h : (s.outageCounted.sampleIgnition high).ignHigh = s.sup.ignHigh) :
    s.retainedTick high = s.setSup (s.outageCounted.sampleIgnition high) := by
  rw [State.retainedTick, State.outageTicked_eq, State.ignitionSampled]
  have hbefore : s.outageCounted.ignHigh = s.sup.ignHigh := rfl
  simp [h, hbefore]

/-- The supervisor at the fourth low sample, before the entry into OFF. -/
def State.ignitionFallen (s : State) : Sup := { s.outageCounted with ignHigh := false, ignCount := 0 }

/-- R183, R184: the fourth low sample. -/
theorem State.retainedTick_falls (hign : s.sup.ignHigh = true) (hcount : 3 ≤ s.sup.ignCount) :
    s.retainedTick false = (s.setSup s.ignitionFallen).enterOff := by
  have hbefore : s.outageCounted.ignHigh = true := hign
  have hsample : s.outageCounted.sampleIgnition false = s.ignitionFallen :=
    Sup.sampleIgnition_takes (by simp [hbefore]) hcount
  have hafter : s.ignitionFallen.ignHigh = false := rfl
  rw [State.retainedTick, State.outageTicked_eq, State.ignitionSampled]
  simp [hbefore, hsample, hafter]

/-- The row of the ignition's fall is the tick it falls at (log 2). -/
theorem exec_ignitionOff (hign : s.sup.ignHigh = true) (hcount : 3 ≤ s.sup.ignCount) :
    exec .ignitionOff s = .next (s.setSup s.ignitionFallen).enterOff := by
  have hafter : (s.setSup s.ignitionFallen).enterOff.sup.ignHigh = false := State.stopped_ignHigh _
  simp only [exec, execIgnitionOff, State.retainedTick_falls hign hcount, occurring, hign, hafter]
  rfl

/-! ### Entry into OFF (R183, R184, R191) -/

theorem State.stopBlocks_sup (s : State) :
    s.stopBlocks.sup = { s.sup with sensorWait := none, rewrite := none, record := s.sup.recordStopped } :=
  s.sup.stopped_eq

theorem State.stopped_of_operating (hop : s.operating = true) : s.stopped = s.stopBlocks := by
  rw [State.stopped, if_pos hop]

theorem State.stopped_of_held (hheld : s.operating = false) : s.stopped = s := by
  rw [State.stopped, hheld]; rfl

/-- An operating part stops as at a RESET. -/
theorem State.enterOff_enters (hop : s.operating = true) {x : Sup} (hx : x.start = s.sup.start) :
    ((s.setSup x).enterOff).stoppedWith .off .ignition ∧ ((s.setSup x).enterOff).standsFrom s
      ∧ ((s.setSup x).enterOff).sup = { x with
          start := .off, entry := .ignition, sensorWait := none, rewrite := none
          record := { x.recordStopped with valid := false } } := by
  have henters : (s.setSup x).enterOff = s.stopBlocks.setSup { x with
      start := .off, entry := .ignition, sensorWait := none, rewrite := none
      record := { x.recordStopped with valid := false } } := by
    rw [State.enterOff, State.stopped_of_operating ((State.setSup_operating hx).trans hop), State.stopBlocks_sup]
    rfl
  rw [henters]
  exact ⟨State.stopBlocks_stoppedWith rfl rfl, s.stopBlocks_standsFrom _, rfl⟩

/-- A held part takes the start state OFF and its cause alone. -/
theorem State.enterOff_of_held (hheld : s.operating = false) :
    s.enterOff = s.setSup { s.sup with
      start := .off, entry := .ignition, record := { s.sup.record with valid := false } } := by
  rw [State.enterOff, State.stopped_of_held hheld]

/-! ### The ignition's return to a part that another hold keeps (R184) -/

theorem State.holdEnds_of_hold (h : s.sup.tripped = true ∨ s.sup.rstLow = true) : s.holdEnds = s := by
  unfold State.holdEnds
  rcases h with h | h <;> simp [h]

/-- R183, R184: the fourth high sample at a part in OFF ends that hold. -/
theorem State.retainedTick_rises (hstart : s.sup.start = .off) (hign : s.sup.ignHigh = false)
    (hcount : 3 ≤ s.sup.ignCount) : s.retainedTick true = (s.setSup s.sup.ignitionReturned).holdEnds := by
  have hcounted : s.outageCounted = { s.sup with outage := saturatingSucc 255 s.sup.outage } := by
    rw [State.outageCounted, State.not_operating_of_off hstart]; rfl
  have hbefore : s.outageCounted.ignHigh = false := hign
  have hsample : s.outageCounted.sampleIgnition true = { s.outageCounted with ignHigh := true, ignCount := 0 } :=
    Sup.sampleIgnition_takes (by simp [hbefore]) hcount
  rw [State.retainedTick, State.outageTicked_eq, State.ignitionSampled]
  simp only [State.setSup_sup, State.setSup_setSup, hbefore, hsample]
  rw [hcounted]
  exact State.offEnds_of_off hstart

/-- The part stays held where its supply or its reset line holds it too. -/
theorem exec_ignitionOn_held (hstart : s.sup.start = .off) (hign : s.sup.ignHigh = false) (hcount : 3 ≤ s.sup.ignCount)
    (hhold : s.sup.tripped = true ∨ s.sup.rstLow = true) :
    exec .ignitionOn s = .next (s.setSup s.sup.ignitionReturned) := by
  have htick : s.retainedTick true = s.setSup s.sup.ignitionReturned :=
    (State.retainedTick_rises hstart hign hcount).trans (State.holdEnds_of_hold hhold)
  simp only [exec, execIgnitionOn, htick, occurring, hign]
  rfl

/-! ### The retained domain's power-up (R186) -/

/-- Whatever a stop does to the record, the power-up loses its contents and leaves its check word (log 39). -/
theorem Sup.recordStopped_lost (x : Sup) :
    { x.recordStopped with contents := none, valid := false } = { x.record with contents := none, valid := false } := by
  unfold Sup.recordStopped
  split <;> rfl

theorem State.stopped_retainedPowered (s : State) :
    s.stopped.sup.retainedPowered = { s.sup with
      ignHigh := false, ignCount := 0, entry := .ignition, retentionLost := true, outage := 255
      record := { s.sup.record with contents := none, valid := false }, rewrite := none
      sensorWait := if s.operating then none else s.sup.sensorWait } := by
  cases hop : s.operating with
  | true =>
    rw [State.stopped_of_operating hop, State.stopBlocks_sup, Sup.retainedPowered, ← s.sup.recordStopped_lost]
    rfl
  | false =>
    rw [State.stopped_of_held hop]
    rfl

end

/-- Settles O57: the tick by what its sample is to the level, and the power-up by whether the part operates. -/
theorem ignitionAndRetained : Obligations.IgnitionAndRetained := by
  refine ⟨fun s high hagrees => ?_, fun s high hdiffers hcount => ?_, fun s hign hcount => ?_,
    fun s hstart hign hcount hhold => exec_ignitionOn_held hstart hign hcount hhold, fun s => ?_⟩
  · have hsample := Sup.sampleIgnition_agrees (x := s.outageCounted) hagrees
    refine congrArg go ((State.retainedTick_same ?_).trans ?_)
    all_goals rw [hsample]; rfl
  · have hsample := Sup.sampleIgnition_counts (x := s.outageCounted) hdiffers hcount
    refine congrArg go ((State.retainedTick_same ?_).trans ?_)
    all_goals rw [hsample]; rfl
  · refine ⟨_, exec_ignitionOff hign hcount, congrArg go (State.retainedTick_falls hign hcount), fun hop => ?_,
      fun hheld => ?_⟩
    · obtain ⟨hstopped, hstands, hsup⟩ := State.enterOff_enters (x := s.ignitionFallen) hop rfl
      refine ⟨hstopped, hstands, hsup.trans ?_⟩
      simp only [State.ignitionFallen, State.outageCounted, hop]
      rfl
    · refine (State.enterOff_of_held (s := s.setSup s.ignitionFallen) hheld).trans ?_
      simp only [State.ignitionFallen, State.outageCounted, hheld]
      rfl
  · refine ⟨_, rfl, fun hop => ?_, fun hheld => ?_, ?_⟩
    · have hpowered := s.stopped_retainedPowered
      rw [hop] at hpowered
      rw [hpowered, State.stopped_of_operating hop]
      exact ⟨State.stopBlocks_stoppedWith rfl rfl, s.stopBlocks_standsFrom _⟩
    · rw [State.stopped_of_held hheld]; rfl
    · rw [State.stopped_retainedPowered]; rfl

end Sys2Proof.Machine
end

section
/-! PROOF. O55: a sample of the supply at which the supply-loss comparator keeps its state: its count, and the warning
comparator by what the sample is to the level. -/
namespace Sys2Proof.Machine

/-- The count `n` that a sample which neither trips nor clears the supply-loss comparator leaves it (R180). -/
def Sup.CountsLoss (x : Sup) (mv n : Nat) : Prop :=
  (x.tripCount = 0 ∧ (x.tripped = false ∧ mv < 6000 ∨ x.tripped = true ∧ 6500 < mv) ∧ n = 1)
    ∨ ((x.tripped = false ∧ 6000 ≤ mv ∨ x.tripped = true ∧ mv ≤ 6500) ∧ n = 0)

section
variable {x : Sup} {s : State} {mv n : Nat}

/-! ### The warning comparator (R181) -/

theorem Sup.sampleWarning_towards_set (hlow : x.low = false) (hmv : mv < x.level.millivolts) :
    x.sampleWarning mv = { x with
      low := decide (3 ≤ x.lowCount), lowCount := if 3 ≤ x.lowCount then 0 else x.lowCount + 1 } := by
  unfold Sup.sampleWarning
  by_cases hcount : 3 ≤ x.lowCount
  · simp [hlow, hmv, hcount]
  · simp [hlow, hmv, hcount]

theorem Sup.sampleWarning_towards_clear (hlow : x.low = true) (hmv : x.level.millivolts + 300 < mv) :
    x.sampleWarning mv = { x with
      low := decide (x.lowCount < 3), lowCount := if 3 ≤ x.lowCount then 0 else x.lowCount + 1 } := by
  unfold Sup.sampleWarning
  by_cases hcount : 3 ≤ x.lowCount
  · simp [hlow, hmv, hcount]
  · simp [hlow, hmv, hcount, Nat.lt_of_not_le hcount]

/-- A sample that does not count. -/
theorem Sup.sampleWarning_returns
    (h : x.low = false ∧ x.level.millivolts ≤ mv ∨ x.low = true ∧ mv ≤ x.level.millivolts + 300) :
    x.sampleWarning mv = { x with lowCount := 0 } := by
  unfold Sup.sampleWarning
  rcases h with ⟨hlow, hmv⟩ | ⟨hlow, hmv⟩
  · simp [hlow, Nat.not_lt.mpr hmv]
  · simp [hlow, Nat.not_lt.mpr hmv]

/-! ### Both comparators (R180, R181; log 19) -/

theorem Sup.sampleLoss_of_counts (h : x.CountsLoss mv n) : x.sampleLoss mv = { x with tripCount := n } := by
  unfold Sup.sampleLoss
  rcases h with ⟨hcount, ⟨htripped, hmv⟩ | ⟨htripped, hmv⟩, rfl⟩ | ⟨⟨htripped, hmv⟩ | ⟨htripped, hmv⟩, rfl⟩
  · simp [htripped, hcount, hmv]
  · simp [htripped, hcount, hmv]
  · simp [htripped, Nat.not_lt.mpr hmv]
  · simp [htripped, Nat.not_lt.mpr hmv]

/-- The supervisor after the warning comparator's turn, which only an operating part takes. -/
def State.supplyWarned (s : State) (mv : Nat) : Sup := if s.operating then s.sup.sampleWarning mv else s.sup

theorem State.sampleWarning_eq_setSup (s : State) (mv : Nat) : s.sampleWarning mv = s.setSup (s.supplyWarned mv) := by
  unfold State.sampleWarning State.whileOperating State.supplyWarned
  split <;> rfl

/-- The warning comparator moves its own two registers alone. -/
theorem State.supplyWarned_eq (s : State) (mv : Nat) :
    ∃ low count, s.supplyWarned mv = { s.sup with low := low, lowCount := count } := by
  unfold State.supplyWarned
  split
  · exact s.sup.sampleWarning_eq mv
  · exact ⟨_, _, rfl⟩

theorem State.supplySampled_of_counts (h : s.sup.CountsLoss mv n) :
    s.supplySampled mv = s.setSup { s.supplyWarned mv with tripCount := n } := by
  obtain ⟨low, count, hwarned⟩ := s.supplyWarned_eq mv
  have hcounts : (s.supplyWarned mv).CountsLoss mv n := by rw [hwarned]; exact h
  rw [State.supplySampled, State.sampleWarning_eq_setSup, State.sampleLoss]
  simp [Sup.sampleLoss_of_counts hcounts]

/-- An operating part at 6.0 V or more, its supply-loss comparator clear. -/
theorem exec_supplySample_clear (hop : s.operating = true) (htripped : s.sup.tripped = false) (hmv : 6000 ≤ mv) :
    exec (.supplySample mv) s = .next (s.setSup { s.sup.sampleWarning mv with tripCount := 0 }) := by
  have hsampled := State.supplySampled_of_counts (s := s) (mv := mv) (.inr ⟨.inl ⟨htripped, hmv⟩, rfl⟩)
  rw [State.supplyWarned, if_pos hop] at hsampled
  exact congrArg go hsampled

/-- The rows of LOW_SUPPLY's changes are the samples they fall at (log 2). -/
theorem exec_lowSupplySet (hop : s.operating = true) (hlow : s.sup.low = false)
    (hset : (s.sup.sampleWarning mv).low = true) : exec (.lowSupplySet mv) s = exec (.supplySample mv) s := by
  simp only [exec, execLowSupplySet, execSupplySample, occurring, State.sampleWarning,
    State.whileOperating_of_operating hop, State.setSup_sup, hlow, hset]
  rfl

theorem exec_lowSupplyClear (hop : s.operating = true) (hlow : s.sup.low = true)
    (hclear : (s.sup.sampleWarning mv).low = false) : exec (.lowSupplyClear mv) s = exec (.supplySample mv) s := by
  simp only [exec, execLowSupplyClear, execSupplySample, occurring, State.sampleWarning,
    State.whileOperating_of_operating hop, State.setSup_sup, hlow, hclear]
  rfl

end

/-- Settles O55: the warning comparator's four cases, then the supply-loss comparator's count at any part. -/
theorem warningComparator : Obligations.WarningComparator := by
  refine ⟨fun s mv hop htripped hmv => ⟨fun hlow hbelow => ?_, fun hlow habove => ?_, fun hlow hlevel => ?_,
    fun hlow hlevel => ?_⟩, fun s mv n hcounts => ?_⟩
  · have hsample := Sup.sampleWarning_towards_set hlow hbelow
    refine ⟨?_, fun hcount => exec_lowSupplySet hop hlow (by rw [hsample]; exact decide_eq_true hcount)⟩
    rw [exec_supplySample_clear hop htripped hmv, hsample]
  · have hsample := Sup.sampleWarning_towards_clear hlow habove
    refine ⟨?_, fun hcount => exec_lowSupplyClear hop hlow (by rw [hsample]; exact decide_eq_false (by omega))⟩
    rw [exec_supplySample_clear hop htripped hmv, hsample]
  · rw [exec_supplySample_clear hop htripped hmv, Sup.sampleWarning_returns (.inl ⟨hlow, hlevel⟩)]
  · rw [exec_supplySample_clear hop htripped hmv, Sup.sampleWarning_returns (.inr ⟨hlow, hlevel⟩)]
  · obtain ⟨low, count, hwarned⟩ := s.supplyWarned_eq mv
    refine ⟨_, congrArg go (State.supplySampled_of_counts hcounts), ?_, fun hop hmv => ?_, fun hheld => ?_⟩
    · rw [hwarned]; rfl
    · rw [State.supplyWarned, if_pos hop, Sup.sampleWarning_below hmv]
      exact ⟨rfl, rfl⟩
    · rw [State.supplyWarned, hheld]
      exact ⟨rfl, rfl⟩

end Sys2Proof.Machine
end

section
/-! PROOF. O1: which of its two rules a step follows is read from the queue of commands alone. `step_of_empty` is the
rule of the empty queue (log 4); the rule of a command at the front is said here. -/
namespace Sys2Proof.Machine

theorem step_of_front {s : State} {c : Instr} {rest : List Instr} (h : s.pending = c :: rest) :
    step s = exec c (s.setPending rest) := by
  simp only [step, h]

/-- Settles O1: the front's rule on a state whose queue was set, where the queue that the step leaves replaces the one it
found, and the empty queue's rule. -/
theorem stepRunsFront : Obligations.StepRunsFront := by
  refine ⟨fun c rest s => ?_, fun _ hempty => step_of_empty hempty⟩
  calc step (s.setPending (c :: rest))
    _ = exec c ((s.setPending (c :: rest)).setPending rest) := step_of_front (s.setPending_pending _)
    _ = exec c (s.setPending rest) := by rw [State.setPending_setPending]

end Sys2Proof.Machine
end
